-- ==== Sys2Proof/Word.lean ====
section
/-! DEFINITION. The two machine words of the core (00_scope.md R7): 8-bit data registers and 16-bit addresses, PC,
SP and register pairs. They are plain bit vectors, so arithmetic on them wraps (R10). -/

namespace Sys2Proof

/-- An 8-bit data register, flag register or memory byte (R7, R20). -/
abbrev Byte := BitVec 8

/-- A 16-bit address, program counter, stack pointer or register pair (R7, R20). -/
abbrev Word := BitVec 16

end Sys2Proof
end

