-- ==== Sys2Proof/Config.lean ====
section
/-! DEFINITION. The named parameters of 00_scope.md R8, each with the values the rule lists and the default it gives,
and the one value the spec leaves OPEN with no default, the contents of the boot sequence (20_memory.md R56, D24).
`Params` is plain data and stands in State as the machine's fixed configuration (DESIGN CHOICE, log entry 2); what Reset alone
reads (INIT_MEM, BOOT_ROM) stands in `Machine.Launch`. -/

namespace Sys2Proof.Config

/-- `FLAG16_MODE` (R8; R102, R108, R109): how 16-bit additions write the flags. -/
inductive Flag16Mode where
  | source
  | lr35902
  deriving DecidableEq, Repr

/-- `SUB_HALF_READING` (R8; R103, R104): the half-carry of a subtraction with borrow. -/
inductive SubHalfReading where
  | nibblePlusBorrow
  | nibbleOfSum
  deriving DecidableEq, Repr

/-- `DAA_MODE` (R8; R105, R106): whether DAA corrects in the subtraction direction when N is 1. -/
inductive DaaMode where
  | lr35902
  | addOnly
  deriving DecidableEq, Repr

/-- `EI_DELAY` (R8; R124, R313): `zero` is the value 0 (EI sets IME at once), `one` the one-instruction delay. -/
inductive EiDelay where
  | zero
  | one
  deriving DecidableEq, Repr

/-- `HALT_WAKE_IME0` (R8; R312): what a pending, enabled request does to a halted core with IME = 0. -/
inductive HaltWakeIme0 where
  | wake
  | stay
  deriving DecidableEq, Repr

/-- `STOP_LENGTH` (R8; R94, R121): STOP is one byte, or two bytes of which the second is ignored. -/
inductive StopLength where
  | one
  | two
  deriving DecidableEq, Repr

/-- `BOOT_OVERLAY_WRITES` (R8; R52): what a write below 0x0100 does while the boot overlay is active. -/
inductive BootOverlayWrites where
  | redirect
  | ignore
  deriving DecidableEq, Repr

/-- `RESET_MODE` (R8; R340, R341). -/
inductive ResetMode where
  | zero
  | postBoot
  deriving DecidableEq, Repr

/-- `ENV_WRITE_POINTS` (R8; R63): where a memory write of another agent may land. -/
inductive EnvWritePoints where
  | round
  | byte
  deriving DecidableEq, Repr

end Sys2Proof.Config

namespace Sys2Proof

/-- The parameters of R8 that a round reads, each with the default R8 gives it. -/
structure Params where
  flag16Mode        : Config.Flag16Mode := .source
  subHalfReading    : Config.SubHalfReading := .nibblePlusBorrow
  daaMode           : Config.DaaMode := .lr35902
  eiDelay           : Config.EiDelay := .zero
  intDispatchCycles : Nat := 20
  haltIdleCycles    : Nat := 4
  haltWakeIme0      : Config.HaltWakeIme0 := .wake
  exitOnIdleHalt    : Bool := false
  stopLength        : Config.StopLength := .two
  bootOverlayWrites : Config.BootOverlayWrites := .redirect
  resetMode         : Config.ResetMode := .zero
  envWritePoints    : Config.EnvWritePoints := .round
  deriving DecidableEq, Repr

/-- Every parameter at its default (the `default` column of R8). -/
def Params.default : Params := {}

/-- `BOOT_ROM` (R8, R56, D24): byte `i` of the boot sequence, for `i` from 0 to 255. The spec gives it no default and
"a model takes it as an argument": it is a free value, so no proof can see what it is (DESIGN CHOICE, log entry 1). -/
opaque Config.bootRom : Nat → Byte

end Sys2Proof
end

