-- ==== Sys2Proof/Machine/Bits.lean ====
section
/-! DEFINITION. The bit-field, sign-extension and byte-order helpers of the notation of 00_scope.md R9 and R10, in the
one place that every other file takes them from: concatenation `hi : lo`, the two bytes of a word, `sext_16`, and the
nibble and byte fields the flag rules compare. -/

namespace Sys2Proof.Machine

/-- `hi : lo` (R9): the byte `hi` in the more significant position. -/
def join (hi lo : Byte) : Word := hi ++ lo

/-- `v[15:8]` (R9). -/
def hiByte (v : Word) : Byte := v.extractLsb' 8 8

/-- `v[7:0]` (R9). -/
def loByte (v : Word) : Byte := v.extractLsb' 0 8

/-- `sext_16(e)` (R10, R83): the displacement byte as a 16-bit two's complement value. -/
def sext16 (e : Byte) : Word := e.signExtend 16

/-- `v[3:0]` as a number (R9). -/
def lowNibble (v : Byte) : Nat := v.toNat % 16

/-- `v[7:4]` as a number (R9). -/
def highNibble (v : Byte) : Nat := v.toNat / 16

/-- `bool(c)` (R10) as a number. -/
def bitNat (b : Bool) : Nat := if b then 1 else 0

/-- `0xFF00 + n` (R82): an address of the last page. -/
def highPage (n : Byte) : Word := join 0xFF n

end Sys2Proof.Machine
end

