-- ==== Sys2Proof/Machine/Memory.lean ====
section
/-! DEFINITION. The flat array of 65,536 bytes (20_memory.md R50) as plain data: the (address, byte) pairs of the bytes
that are not 0x00, addresses strictly rising, so that equal memories are equal lists. An address that is not listed
reads as 0x00, the default of `INIT_MEM` (R340, D26; DEDUCED, log entry 3). -/

namespace Sys2Proof.Machine

/-- The bytes of memory that are not 0x00, by rising address. -/
abbrev Memory := List Host.Cell

/-- What an address that is not listed reads as (R340: `INIT_MEM` is "default all 0x00"). -/
def Memory.unlisted : Byte := 0x00

/-- The byte at an address. -/
def Memory.read : Memory → Nat → Byte
  | [], _ => Memory.unlisted
  | (a, v) :: m, x => if a = x then v else Memory.read m x

/-- The memory with nothing listed at an address. -/
def Memory.erase : Memory → Nat → Memory
  | [], _ => []
  | (a, v) :: m, x => if a = x then Memory.erase m x else (a, v) :: Memory.erase m x

/-- The memory with one more listed byte, before the first entry of a higher address. -/
def Memory.insert : Memory → Nat → Byte → Memory
  | [], x, v => [(x, v)]
  | (a, w) :: m, x, v => if x < a then (x, v) :: (a, w) :: m else (a, w) :: Memory.insert m x v

/-- The memory with the byte at `x` changed to `v`; writing what an unlisted address reads as removes the entry. -/
def Memory.write (m : Memory) (x : Nat) (v : Byte) : Memory :=
  if v = Memory.unlisted then Memory.erase m x else Memory.insert (Memory.erase m x) x v

/-- The bytes of a list stored at consecutive addresses from `base` (R344, and the byte map of `INIT_MEM`). -/
def Memory.writeAll : Memory → Nat → List Byte → Memory
  | m, _, [] => m
  | m, base, v :: vs => Memory.writeAll (Memory.write m base v) (base + 1) vs

/-- The canonical form with every address at least `lo`: strictly rising, inside the 16-bit space, no entry equal to
what an unlisted address reads as. -/
def Memory.wfFrom : Nat → Memory → Bool
  | _, [] => true
  | lo, (a, v) :: m => decide (lo ≤ a) && decide (a < 65536) && decide (v ≠ Memory.unlisted) && Memory.wfFrom (a + 1) m

/-- The canonical form of a memory. -/
def Memory.wf (m : Memory) : Bool := Memory.wfFrom 0 m

end Sys2Proof.Machine
end

