-- ==== Sys2Proof/Syntax.lean ====
section
/-! DEFINITION. The instruction set as syntax: ONE inductive with one constructor for every mnemonic of
spec/opcode_table.json (502 of them). Register, pair, condition, bit and restart operands are part of a row's name,
as the table has them; what remains as an argument is the immediate that follows the opcode: `n` an unsigned byte
(30_encoding.md R82), `e` a displacement byte read as two's complement (R83), `nn` a 16-bit immediate (R84).
Constructor names follow the mnemonic: `At` marks a memory operand in parentheses, `Rel` a displacement,
`N` and `Nn` an immediate of 8 or 16 bits. LAWS.json maps each to its table mnemonic. -/

namespace Sys2Proof

/-- The 8-bit operand codes of R85 that are registers (code 6, the byte at HL, is not one). -/
inductive Reg8 where
  | b | c | d | e | h | l | a
  deriving DecidableEq, Repr

/-- The operand a 3-bit code names: a register, or code 6, the memory byte at HL (R85). -/
inductive Place where
  | reg (r : Reg8)
  | atHl
  deriving DecidableEq, Repr

/-- The pair codes `rp` of R86. -/
inductive Pair where
  | bc | de | hl | sp
  deriving DecidableEq, Repr

/-- The pair codes `rp2` of R87, used by PUSH and POP. -/
inductive StackPair where
  | bc | de | hl | af
  deriving DecidableEq, Repr

/-- The condition codes of R88. -/
inductive Cond where
  | nz | z | nc | c
  deriving DecidableEq, Repr

/-- The accumulator operations of R89. -/
inductive AluOp where
  | add | adc | sub | sbc | and | xor | or | cp
  deriving DecidableEq, Repr

/-- The rotate and shift operations of R90. -/
inductive RotOp where
  | rlc | rrc | rl | rr | sla | sra | swap | srl
  deriving DecidableEq, Repr

/-- One constructor per mnemonic of spec/opcode_table.json: those with an argument first, then the others, each group
in the table's order. (The order has no meaning; Lean's compiler wants constructors with arguments among the first
244.) -/
inductive Instr where
  /-- `LD BC,nn` (R171). -/
  | ldBcNn (nn : Word)
  /-- `LD B,n` (R142). -/
  | ldBN (n : Byte)
  /-- `LD (nn),SP` (R172). -/
  | ldAtNnSp (nn : Word)
  /-- `LD C,n` (R142). -/
  | ldCN (n : Byte)
  /-- `LD DE,nn` (R171). -/
  | ldDeNn (nn : Word)
  /-- `LD D,n` (R142). -/
  | ldDN (n : Byte)
  /-- `JR e` (R274). -/
  | jrRel (e : Byte)
  /-- `LD E,n` (R142). -/
  | ldEN (n : Byte)
  /-- `JR NZ,e` (R275). -/
  | jrNzRel (e : Byte)
  /-- `LD HL,nn` (R171). -/
  | ldHlNn (nn : Word)
  /-- `LD H,n` (R142). -/
  | ldHN (n : Byte)
  /-- `JR Z,e` (R275). -/
  | jrZRel (e : Byte)
  /-- `LD L,n` (R142). -/
  | ldLN (n : Byte)
  /-- `JR NC,e` (R275). -/
  | jrNcRel (e : Byte)
  /-- `LD SP,nn` (R171). -/
  | ldSpNn (nn : Word)
  /-- `LD (HL),n` (R145). -/
  | ldAtHlN (n : Byte)
  /-- `JR C,e` (R275). -/
  | jrCRel (e : Byte)
  /-- `LD A,n` (R142). -/
  | ldAN (n : Byte)
  /-- `JP NZ,nn` (R272). -/
  | jpNzNn (nn : Word)
  /-- `JP nn` (R271). -/
  | jpNn (nn : Word)
  /-- `CALL NZ,nn` (R277). -/
  | callNzNn (nn : Word)
  /-- `ADD A,n` (R193). -/
  | addAN (n : Byte)
  /-- `JP Z,nn` (R272). -/
  | jpZNn (nn : Word)
  /-- The prefix 0xCB with the extended opcode that follows it (R125). -/
  | prefixCb (op2 : Byte)
  /-- `CALL Z,nn` (R277). -/
  | callZNn (nn : Word)
  /-- `CALL nn` (R276). -/
  | callNn (nn : Word)
  /-- `ADC A,n` (R196). -/
  | adcAN (n : Byte)
  /-- `JP NC,nn` (R272). -/
  | jpNcNn (nn : Word)
  /-- The eleven unrecognized opcodes (R93); `op` is the offending byte (R126). -/
  | illegal (op : Byte)
  /-- `CALL NC,nn` (R277). -/
  | callNcNn (nn : Word)
  /-- `SUB n` (R199). -/
  | subN (n : Byte)
  /-- `JP C,nn` (R272). -/
  | jpCNn (nn : Word)
  /-- `CALL C,nn` (R277). -/
  | callCNn (nn : Word)
  /-- `SBC A,n` (R202). -/
  | sbcAN (n : Byte)
  /-- `LDH (n),A` (R153). -/
  | ldhAtNA (n : Byte)
  /-- `AND n` (R205). -/
  | andN (n : Byte)
  /-- `ADD SP,e` (R233). -/
  | addSpRel (e : Byte)
  /-- `LD (nn),A` (R151). -/
  | ldAtNnA (nn : Word)
  /-- `XOR n` (R208). -/
  | xorN (n : Byte)
  /-- `LDH A,(n)` (R152). -/
  | ldhAAtN (n : Byte)
  /-- `OR n` (R211). -/
  | orN (n : Byte)
  /-- `LD HL,SP+e` (R174). -/
  | ldHlSpRel (e : Byte)
  /-- `LD A,(nn)` (R150). -/
  | ldAAtNn (nn : Word)
  /-- `CP n` (R214). -/
  | cpN (n : Byte)
  /-- `NOP` (R120). -/
  | nop
  /-- `LD (BC),A` (R148). -/
  | ldAtBcA
  /-- `INC BC` (R231). -/
  | incBc
  /-- `INC B` (R215). -/
  | incB
  /-- `DEC B` (R217). -/
  | decB
  /-- `RLCA` (R240). -/
  | rlca
  /-- `ADD HL,BC` (R230). -/
  | addHlBc
  /-- `LD A,(BC)` (R146). -/
  | ldAAtBc
  /-- `DEC BC` (R232). -/
  | decBc
  /-- `INC C` (R215). -/
  | incC
  /-- `DEC C` (R217). -/
  | decC
  /-- `RRCA` (R241). -/
  | rrca
  /-- `STOP` (R121). -/
  | stop
  /-- `LD (DE),A` (R149). -/
  | ldAtDeA
  /-- `INC DE` (R231). -/
  | incDe
  /-- `INC D` (R215). -/
  | incD
  /-- `DEC D` (R217). -/
  | decD
  /-- `RLA` (R242). -/
  | rla
  /-- `ADD HL,DE` (R230). -/
  | addHlDe
  /-- `LD A,(DE)` (R147). -/
  | ldAAtDe
  /-- `DEC DE` (R232). -/
  | decDe
  /-- `INC E` (R215). -/
  | incE
  /-- `DEC E` (R217). -/
  | decE
  /-- `RRA` (R243). -/
  | rra
  /-- `LD (HL+),A` (R156). -/
  | ldAtHlIncA
  /-- `INC HL` (R231). -/
  | incHl
  /-- `INC H` (R215). -/
  | incH
  /-- `DEC H` (R217). -/
  | decH
  /-- `DAA` (R219). -/
  | daa
  /-- `ADD HL,HL` (R230). -/
  | addHlHl
  /-- `LD A,(HL+)` (R158). -/
  | ldAAtHlInc
  /-- `DEC HL` (R232). -/
  | decHl
  /-- `INC L` (R215). -/
  | incL
  /-- `DEC L` (R217). -/
  | decL
  /-- `CPL` (R220). -/
  | cpl
  /-- `LD (HL-),A` (R157). -/
  | ldAtHlDecA
  /-- `INC SP` (R231). -/
  | incSp
  /-- `INC (HL)` (R216). -/
  | incAtHl
  /-- `DEC (HL)` (R218). -/
  | decAtHl
  /-- `SCF` (R221). -/
  | scf
  /-- `ADD HL,SP` (R230). -/
  | addHlSp
  /-- `LD A,(HL-)` (R159). -/
  | ldAAtHlDec
  /-- `DEC SP` (R232). -/
  | decSp
  /-- `INC A` (R215). -/
  | incA
  /-- `DEC A` (R217). -/
  | decA
  /-- `CCF` (R222). -/
  | ccf
  /-- `LD B,B` (R141). -/
  | ldBB
  /-- `LD B,C` (R141). -/
  | ldBC
  /-- `LD B,D` (R141). -/
  | ldBD
  /-- `LD B,E` (R141). -/
  | ldBE
  /-- `LD B,H` (R141). -/
  | ldBH
  /-- `LD B,L` (R141). -/
  | ldBL
  /-- `LD B,(HL)` (R143). -/
  | ldBAtHl
  /-- `LD B,A` (R141). -/
  | ldBA
  /-- `LD C,B` (R141). -/
  | ldCB
  /-- `LD C,C` (R141). -/
  | ldCC
  /-- `LD C,D` (R141). -/
  | ldCD
  /-- `LD C,E` (R141). -/
  | ldCE
  /-- `LD C,H` (R141). -/
  | ldCH
  /-- `LD C,L` (R141). -/
  | ldCL
  /-- `LD C,(HL)` (R143). -/
  | ldCAtHl
  /-- `LD C,A` (R141). -/
  | ldCA
  /-- `LD D,B` (R141). -/
  | ldDB
  /-- `LD D,C` (R141). -/
  | ldDC
  /-- `LD D,D` (R141). -/
  | ldDD
  /-- `LD D,E` (R141). -/
  | ldDE
  /-- `LD D,H` (R141). -/
  | ldDH
  /-- `LD D,L` (R141). -/
  | ldDL
  /-- `LD D,(HL)` (R143). -/
  | ldDAtHl
  /-- `LD D,A` (R141). -/
  | ldDA
  /-- `LD E,B` (R141). -/
  | ldEB
  /-- `LD E,C` (R141). -/
  | ldEC
  /-- `LD E,D` (R141). -/
  | ldED
  /-- `LD E,E` (R141). -/
  | ldEE
  /-- `LD E,H` (R141). -/
  | ldEH
  /-- `LD E,L` (R141). -/
  | ldEL
  /-- `LD E,(HL)` (R143). -/
  | ldEAtHl
  /-- `LD E,A` (R141). -/
  | ldEA
  /-- `LD H,B` (R141). -/
  | ldHB
  /-- `LD H,C` (R141). -/
  | ldHC
  /-- `LD H,D` (R141). -/
  | ldHD
  /-- `LD H,E` (R141). -/
  | ldHE
  /-- `LD H,H` (R141). -/
  | ldHH
  /-- `LD H,L` (R141). -/
  | ldHL
  /-- `LD H,(HL)` (R143). -/
  | ldHAtHl
  /-- `LD H,A` (R141). -/
  | ldHA
  /-- `LD L,B` (R141). -/
  | ldLB
  /-- `LD L,C` (R141). -/
  | ldLC
  /-- `LD L,D` (R141). -/
  | ldLD
  /-- `LD L,E` (R141). -/
  | ldLE
  /-- `LD L,H` (R141). -/
  | ldLH
  /-- `LD L,L` (R141). -/
  | ldLL
  /-- `LD L,(HL)` (R143). -/
  | ldLAtHl
  /-- `LD L,A` (R141). -/
  | ldLA
  /-- `LD (HL),B` (R144). -/
  | ldAtHlB
  /-- `LD (HL),C` (R144). -/
  | ldAtHlC
  /-- `LD (HL),D` (R144). -/
  | ldAtHlD
  /-- `LD (HL),E` (R144). -/
  | ldAtHlE
  /-- `LD (HL),H` (R144). -/
  | ldAtHlH
  /-- `LD (HL),L` (R144). -/
  | ldAtHlL
  /-- `HALT` (R122). -/
  | halt
  /-- `LD (HL),A` (R144). -/
  | ldAtHlA
  /-- `LD A,B` (R141). -/
  | ldAB
  /-- `LD A,C` (R141). -/
  | ldAC
  /-- `LD A,D` (R141). -/
  | ldAD
  /-- `LD A,E` (R141). -/
  | ldAE
  /-- `LD A,H` (R141). -/
  | ldAH
  /-- `LD A,L` (R141). -/
  | ldAL
  /-- `LD A,(HL)` (R143). -/
  | ldAAtHl
  /-- `LD A,A` (R141). -/
  | ldAA
  /-- `ADD A,B` (R191). -/
  | addAB
  /-- `ADD A,C` (R191). -/
  | addAC
  /-- `ADD A,D` (R191). -/
  | addAD
  /-- `ADD A,E` (R191). -/
  | addAE
  /-- `ADD A,H` (R191). -/
  | addAH
  /-- `ADD A,L` (R191). -/
  | addAL
  /-- `ADD A,(HL)` (R192). -/
  | addAAtHl
  /-- `ADD A,A` (R191). -/
  | addAA
  /-- `ADC A,B` (R194). -/
  | adcAB
  /-- `ADC A,C` (R194). -/
  | adcAC
  /-- `ADC A,D` (R194). -/
  | adcAD
  /-- `ADC A,E` (R194). -/
  | adcAE
  /-- `ADC A,H` (R194). -/
  | adcAH
  /-- `ADC A,L` (R194). -/
  | adcAL
  /-- `ADC A,(HL)` (R195). -/
  | adcAAtHl
  /-- `ADC A,A` (R194). -/
  | adcAA
  /-- `SUB B` (R197). -/
  | subB
  /-- `SUB C` (R197). -/
  | subC
  /-- `SUB D` (R197). -/
  | subD
  /-- `SUB E` (R197). -/
  | subE
  /-- `SUB H` (R197). -/
  | subH
  /-- `SUB L` (R197). -/
  | subL
  /-- `SUB (HL)` (R198). -/
  | subAtHl
  /-- `SUB A` (R197). -/
  | subA
  /-- `SBC A,B` (R200). -/
  | sbcAB
  /-- `SBC A,C` (R200). -/
  | sbcAC
  /-- `SBC A,D` (R200). -/
  | sbcAD
  /-- `SBC A,E` (R200). -/
  | sbcAE
  /-- `SBC A,H` (R200). -/
  | sbcAH
  /-- `SBC A,L` (R200). -/
  | sbcAL
  /-- `SBC A,(HL)` (R201). -/
  | sbcAAtHl
  /-- `SBC A,A` (R200). -/
  | sbcAA
  /-- `AND B` (R203). -/
  | andB
  /-- `AND C` (R203). -/
  | andC
  /-- `AND D` (R203). -/
  | andD
  /-- `AND E` (R203). -/
  | andE
  /-- `AND H` (R203). -/
  | andH
  /-- `AND L` (R203). -/
  | andL
  /-- `AND (HL)` (R204). -/
  | andAtHl
  /-- `AND A` (R203). -/
  | andA
  /-- `XOR B` (R206). -/
  | xorB
  /-- `XOR C` (R206). -/
  | xorC
  /-- `XOR D` (R206). -/
  | xorD
  /-- `XOR E` (R206). -/
  | xorE
  /-- `XOR H` (R206). -/
  | xorH
  /-- `XOR L` (R206). -/
  | xorL
  /-- `XOR (HL)` (R207). -/
  | xorAtHl
  /-- `XOR A` (R206). -/
  | xorA
  /-- `OR B` (R209). -/
  | orB
  /-- `OR C` (R209). -/
  | orC
  /-- `OR D` (R209). -/
  | orD
  /-- `OR E` (R209). -/
  | orE
  /-- `OR H` (R209). -/
  | orH
  /-- `OR L` (R209). -/
  | orL
  /-- `OR (HL)` (R210). -/
  | orAtHl
  /-- `OR A` (R209). -/
  | orA
  /-- `CP B` (R212). -/
  | cpB
  /-- `CP C` (R212). -/
  | cpC
  /-- `CP D` (R212). -/
  | cpD
  /-- `CP E` (R212). -/
  | cpE
  /-- `CP H` (R212). -/
  | cpH
  /-- `CP L` (R212). -/
  | cpL
  /-- `CP (HL)` (R213). -/
  | cpAtHl
  /-- `CP A` (R212). -/
  | cpA
  /-- `RET NZ` (R279). -/
  | retNz
  /-- `POP BC` (R177). -/
  | popBc
  /-- `PUSH BC` (R175). -/
  | pushBc
  /-- `RST 00H` (R281). -/
  | rst00h
  /-- `RET Z` (R279). -/
  | retZ
  /-- `RET` (R278). -/
  | ret
  /-- `RST 08H` (R281). -/
  | rst08h
  /-- `RET NC` (R279). -/
  | retNc
  /-- `POP DE` (R177). -/
  | popDe
  /-- `PUSH DE` (R175). -/
  | pushDe
  /-- `RST 10H` (R281). -/
  | rst10h
  /-- `RET C` (R279). -/
  | retC
  /-- `RETI` (R280). -/
  | reti
  /-- `RST 18H` (R281). -/
  | rst18h
  /-- `POP HL` (R177). -/
  | popHl
  /-- `LD (C),A` (R155). -/
  | ldAtCA
  /-- `PUSH HL` (R175). -/
  | pushHl
  /-- `RST 20H` (R281). -/
  | rst20h
  /-- `JP HL` (R273). -/
  | jpHl
  /-- `RST 28H` (R281). -/
  | rst28h
  /-- `POP AF` (R178). -/
  | popAf
  /-- `LD A,(C)` (R154). -/
  | ldAAtC
  /-- `DI` (R123). -/
  | di
  /-- `PUSH AF` (R176). -/
  | pushAf
  /-- `RST 30H` (R281). -/
  | rst30h
  /-- `LD SP,HL` (R173). -/
  | ldSpHl
  /-- `EI` (R124). -/
  | ei
  /-- `RST 38H` (R281). -/
  | rst38h
  /-- `RLC B` (R245). -/
  | rlcB
  /-- `RLC C` (R245). -/
  | rlcC
  /-- `RLC D` (R245). -/
  | rlcD
  /-- `RLC E` (R245). -/
  | rlcE
  /-- `RLC H` (R245). -/
  | rlcH
  /-- `RLC L` (R245). -/
  | rlcL
  /-- `RLC (HL)` (R246). -/
  | rlcAtHl
  /-- `RLC A` (R245). -/
  | rlcA
  /-- `RRC B` (R247). -/
  | rrcB
  /-- `RRC C` (R247). -/
  | rrcC
  /-- `RRC D` (R247). -/
  | rrcD
  /-- `RRC E` (R247). -/
  | rrcE
  /-- `RRC H` (R247). -/
  | rrcH
  /-- `RRC L` (R247). -/
  | rrcL
  /-- `RRC (HL)` (R248). -/
  | rrcAtHl
  /-- `RRC A` (R247). -/
  | rrcA
  /-- `RL B` (R249). -/
  | rlB
  /-- `RL C` (R249). -/
  | rlC
  /-- `RL D` (R249). -/
  | rlD
  /-- `RL E` (R249). -/
  | rlE
  /-- `RL H` (R249). -/
  | rlH
  /-- `RL L` (R249). -/
  | rlL
  /-- `RL (HL)` (R250). -/
  | rlAtHl
  /-- `RL A` (R249). -/
  | rlA
  /-- `RR B` (R251). -/
  | rrB
  /-- `RR C` (R251). -/
  | rrC
  /-- `RR D` (R251). -/
  | rrD
  /-- `RR E` (R251). -/
  | rrE
  /-- `RR H` (R251). -/
  | rrH
  /-- `RR L` (R251). -/
  | rrL
  /-- `RR (HL)` (R252). -/
  | rrAtHl
  /-- `RR A` (R251). -/
  | rrA
  /-- `SLA B` (R253). -/
  | slaB
  /-- `SLA C` (R253). -/
  | slaC
  /-- `SLA D` (R253). -/
  | slaD
  /-- `SLA E` (R253). -/
  | slaE
  /-- `SLA H` (R253). -/
  | slaH
  /-- `SLA L` (R253). -/
  | slaL
  /-- `SLA (HL)` (R254). -/
  | slaAtHl
  /-- `SLA A` (R253). -/
  | slaA
  /-- `SRA B` (R255). -/
  | sraB
  /-- `SRA C` (R255). -/
  | sraC
  /-- `SRA D` (R255). -/
  | sraD
  /-- `SRA E` (R255). -/
  | sraE
  /-- `SRA H` (R255). -/
  | sraH
  /-- `SRA L` (R255). -/
  | sraL
  /-- `SRA (HL)` (R256). -/
  | sraAtHl
  /-- `SRA A` (R255). -/
  | sraA
  /-- `SWAP B` (R257). -/
  | swapB
  /-- `SWAP C` (R257). -/
  | swapC
  /-- `SWAP D` (R257). -/
  | swapD
  /-- `SWAP E` (R257). -/
  | swapE
  /-- `SWAP H` (R257). -/
  | swapH
  /-- `SWAP L` (R257). -/
  | swapL
  /-- `SWAP (HL)` (R258). -/
  | swapAtHl
  /-- `SWAP A` (R257). -/
  | swapA
  /-- `SRL B` (R259). -/
  | srlB
  /-- `SRL C` (R259). -/
  | srlC
  /-- `SRL D` (R259). -/
  | srlD
  /-- `SRL E` (R259). -/
  | srlE
  /-- `SRL H` (R259). -/
  | srlH
  /-- `SRL L` (R259). -/
  | srlL
  /-- `SRL (HL)` (R260). -/
  | srlAtHl
  /-- `SRL A` (R259). -/
  | srlA
  /-- `BIT 0,B` (R261). -/
  | bit0B
  /-- `BIT 0,C` (R261). -/
  | bit0C
  /-- `BIT 0,D` (R261). -/
  | bit0D
  /-- `BIT 0,E` (R261). -/
  | bit0E
  /-- `BIT 0,H` (R261). -/
  | bit0H
  /-- `BIT 0,L` (R261). -/
  | bit0L
  /-- `BIT 0,(HL)` (R262). -/
  | bit0AtHl
  /-- `BIT 0,A` (R261). -/
  | bit0A
  /-- `BIT 1,B` (R261). -/
  | bit1B
  /-- `BIT 1,C` (R261). -/
  | bit1C
  /-- `BIT 1,D` (R261). -/
  | bit1D
  /-- `BIT 1,E` (R261). -/
  | bit1E
  /-- `BIT 1,H` (R261). -/
  | bit1H
  /-- `BIT 1,L` (R261). -/
  | bit1L
  /-- `BIT 1,(HL)` (R262). -/
  | bit1AtHl
  /-- `BIT 1,A` (R261). -/
  | bit1A
  /-- `BIT 2,B` (R261). -/
  | bit2B
  /-- `BIT 2,C` (R261). -/
  | bit2C
  /-- `BIT 2,D` (R261). -/
  | bit2D
  /-- `BIT 2,E` (R261). -/
  | bit2E
  /-- `BIT 2,H` (R261). -/
  | bit2H
  /-- `BIT 2,L` (R261). -/
  | bit2L
  /-- `BIT 2,(HL)` (R262). -/
  | bit2AtHl
  /-- `BIT 2,A` (R261). -/
  | bit2A
  /-- `BIT 3,B` (R261). -/
  | bit3B
  /-- `BIT 3,C` (R261). -/
  | bit3C
  /-- `BIT 3,D` (R261). -/
  | bit3D
  /-- `BIT 3,E` (R261). -/
  | bit3E
  /-- `BIT 3,H` (R261). -/
  | bit3H
  /-- `BIT 3,L` (R261). -/
  | bit3L
  /-- `BIT 3,(HL)` (R262). -/
  | bit3AtHl
  /-- `BIT 3,A` (R261). -/
  | bit3A
  /-- `BIT 4,B` (R261). -/
  | bit4B
  /-- `BIT 4,C` (R261). -/
  | bit4C
  /-- `BIT 4,D` (R261). -/
  | bit4D
  /-- `BIT 4,E` (R261). -/
  | bit4E
  /-- `BIT 4,H` (R261). -/
  | bit4H
  /-- `BIT 4,L` (R261). -/
  | bit4L
  /-- `BIT 4,(HL)` (R262). -/
  | bit4AtHl
  /-- `BIT 4,A` (R261). -/
  | bit4A
  /-- `BIT 5,B` (R261). -/
  | bit5B
  /-- `BIT 5,C` (R261). -/
  | bit5C
  /-- `BIT 5,D` (R261). -/
  | bit5D
  /-- `BIT 5,E` (R261). -/
  | bit5E
  /-- `BIT 5,H` (R261). -/
  | bit5H
  /-- `BIT 5,L` (R261). -/
  | bit5L
  /-- `BIT 5,(HL)` (R262). -/
  | bit5AtHl
  /-- `BIT 5,A` (R261). -/
  | bit5A
  /-- `BIT 6,B` (R261). -/
  | bit6B
  /-- `BIT 6,C` (R261). -/
  | bit6C
  /-- `BIT 6,D` (R261). -/
  | bit6D
  /-- `BIT 6,E` (R261). -/
  | bit6E
  /-- `BIT 6,H` (R261). -/
  | bit6H
  /-- `BIT 6,L` (R261). -/
  | bit6L
  /-- `BIT 6,(HL)` (R262). -/
  | bit6AtHl
  /-- `BIT 6,A` (R261). -/
  | bit6A
  /-- `BIT 7,B` (R261). -/
  | bit7B
  /-- `BIT 7,C` (R261). -/
  | bit7C
  /-- `BIT 7,D` (R261). -/
  | bit7D
  /-- `BIT 7,E` (R261). -/
  | bit7E
  /-- `BIT 7,H` (R261). -/
  | bit7H
  /-- `BIT 7,L` (R261). -/
  | bit7L
  /-- `BIT 7,(HL)` (R262). -/
  | bit7AtHl
  /-- `BIT 7,A` (R261). -/
  | bit7A
  /-- `RES 0,B` (R263). -/
  | res0B
  /-- `RES 0,C` (R263). -/
  | res0C
  /-- `RES 0,D` (R263). -/
  | res0D
  /-- `RES 0,E` (R263). -/
  | res0E
  /-- `RES 0,H` (R263). -/
  | res0H
  /-- `RES 0,L` (R263). -/
  | res0L
  /-- `RES 0,(HL)` (R264). -/
  | res0AtHl
  /-- `RES 0,A` (R263). -/
  | res0A
  /-- `RES 1,B` (R263). -/
  | res1B
  /-- `RES 1,C` (R263). -/
  | res1C
  /-- `RES 1,D` (R263). -/
  | res1D
  /-- `RES 1,E` (R263). -/
  | res1E
  /-- `RES 1,H` (R263). -/
  | res1H
  /-- `RES 1,L` (R263). -/
  | res1L
  /-- `RES 1,(HL)` (R264). -/
  | res1AtHl
  /-- `RES 1,A` (R263). -/
  | res1A
  /-- `RES 2,B` (R263). -/
  | res2B
  /-- `RES 2,C` (R263). -/
  | res2C
  /-- `RES 2,D` (R263). -/
  | res2D
  /-- `RES 2,E` (R263). -/
  | res2E
  /-- `RES 2,H` (R263). -/
  | res2H
  /-- `RES 2,L` (R263). -/
  | res2L
  /-- `RES 2,(HL)` (R264). -/
  | res2AtHl
  /-- `RES 2,A` (R263). -/
  | res2A
  /-- `RES 3,B` (R263). -/
  | res3B
  /-- `RES 3,C` (R263). -/
  | res3C
  /-- `RES 3,D` (R263). -/
  | res3D
  /-- `RES 3,E` (R263). -/
  | res3E
  /-- `RES 3,H` (R263). -/
  | res3H
  /-- `RES 3,L` (R263). -/
  | res3L
  /-- `RES 3,(HL)` (R264). -/
  | res3AtHl
  /-- `RES 3,A` (R263). -/
  | res3A
  /-- `RES 4,B` (R263). -/
  | res4B
  /-- `RES 4,C` (R263). -/
  | res4C
  /-- `RES 4,D` (R263). -/
  | res4D
  /-- `RES 4,E` (R263). -/
  | res4E
  /-- `RES 4,H` (R263). -/
  | res4H
  /-- `RES 4,L` (R263). -/
  | res4L
  /-- `RES 4,(HL)` (R264). -/
  | res4AtHl
  /-- `RES 4,A` (R263). -/
  | res4A
  /-- `RES 5,B` (R263). -/
  | res5B
  /-- `RES 5,C` (R263). -/
  | res5C
  /-- `RES 5,D` (R263). -/
  | res5D
  /-- `RES 5,E` (R263). -/
  | res5E
  /-- `RES 5,H` (R263). -/
  | res5H
  /-- `RES 5,L` (R263). -/
  | res5L
  /-- `RES 5,(HL)` (R264). -/
  | res5AtHl
  /-- `RES 5,A` (R263). -/
  | res5A
  /-- `RES 6,B` (R263). -/
  | res6B
  /-- `RES 6,C` (R263). -/
  | res6C
  /-- `RES 6,D` (R263). -/
  | res6D
  /-- `RES 6,E` (R263). -/
  | res6E
  /-- `RES 6,H` (R263). -/
  | res6H
  /-- `RES 6,L` (R263). -/
  | res6L
  /-- `RES 6,(HL)` (R264). -/
  | res6AtHl
  /-- `RES 6,A` (R263). -/
  | res6A
  /-- `RES 7,B` (R263). -/
  | res7B
  /-- `RES 7,C` (R263). -/
  | res7C
  /-- `RES 7,D` (R263). -/
  | res7D
  /-- `RES 7,E` (R263). -/
  | res7E
  /-- `RES 7,H` (R263). -/
  | res7H
  /-- `RES 7,L` (R263). -/
  | res7L
  /-- `RES 7,(HL)` (R264). -/
  | res7AtHl
  /-- `RES 7,A` (R263). -/
  | res7A
  /-- `SET 0,B` (R265). -/
  | set0B
  /-- `SET 0,C` (R265). -/
  | set0C
  /-- `SET 0,D` (R265). -/
  | set0D
  /-- `SET 0,E` (R265). -/
  | set0E
  /-- `SET 0,H` (R265). -/
  | set0H
  /-- `SET 0,L` (R265). -/
  | set0L
  /-- `SET 0,(HL)` (R266). -/
  | set0AtHl
  /-- `SET 0,A` (R265). -/
  | set0A
  /-- `SET 1,B` (R265). -/
  | set1B
  /-- `SET 1,C` (R265). -/
  | set1C
  /-- `SET 1,D` (R265). -/
  | set1D
  /-- `SET 1,E` (R265). -/
  | set1E
  /-- `SET 1,H` (R265). -/
  | set1H
  /-- `SET 1,L` (R265). -/
  | set1L
  /-- `SET 1,(HL)` (R266). -/
  | set1AtHl
  /-- `SET 1,A` (R265). -/
  | set1A
  /-- `SET 2,B` (R265). -/
  | set2B
  /-- `SET 2,C` (R265). -/
  | set2C
  /-- `SET 2,D` (R265). -/
  | set2D
  /-- `SET 2,E` (R265). -/
  | set2E
  /-- `SET 2,H` (R265). -/
  | set2H
  /-- `SET 2,L` (R265). -/
  | set2L
  /-- `SET 2,(HL)` (R266). -/
  | set2AtHl
  /-- `SET 2,A` (R265). -/
  | set2A
  /-- `SET 3,B` (R265). -/
  | set3B
  /-- `SET 3,C` (R265). -/
  | set3C
  /-- `SET 3,D` (R265). -/
  | set3D
  /-- `SET 3,E` (R265). -/
  | set3E
  /-- `SET 3,H` (R265). -/
  | set3H
  /-- `SET 3,L` (R265). -/
  | set3L
  /-- `SET 3,(HL)` (R266). -/
  | set3AtHl
  /-- `SET 3,A` (R265). -/
  | set3A
  /-- `SET 4,B` (R265). -/
  | set4B
  /-- `SET 4,C` (R265). -/
  | set4C
  /-- `SET 4,D` (R265). -/
  | set4D
  /-- `SET 4,E` (R265). -/
  | set4E
  /-- `SET 4,H` (R265). -/
  | set4H
  /-- `SET 4,L` (R265). -/
  | set4L
  /-- `SET 4,(HL)` (R266). -/
  | set4AtHl
  /-- `SET 4,A` (R265). -/
  | set4A
  /-- `SET 5,B` (R265). -/
  | set5B
  /-- `SET 5,C` (R265). -/
  | set5C
  /-- `SET 5,D` (R265). -/
  | set5D
  /-- `SET 5,E` (R265). -/
  | set5E
  /-- `SET 5,H` (R265). -/
  | set5H
  /-- `SET 5,L` (R265). -/
  | set5L
  /-- `SET 5,(HL)` (R266). -/
  | set5AtHl
  /-- `SET 5,A` (R265). -/
  | set5A
  /-- `SET 6,B` (R265). -/
  | set6B
  /-- `SET 6,C` (R265). -/
  | set6C
  /-- `SET 6,D` (R265). -/
  | set6D
  /-- `SET 6,E` (R265). -/
  | set6E
  /-- `SET 6,H` (R265). -/
  | set6H
  /-- `SET 6,L` (R265). -/
  | set6L
  /-- `SET 6,(HL)` (R266). -/
  | set6AtHl
  /-- `SET 6,A` (R265). -/
  | set6A
  /-- `SET 7,B` (R265). -/
  | set7B
  /-- `SET 7,C` (R265). -/
  | set7C
  /-- `SET 7,D` (R265). -/
  | set7D
  /-- `SET 7,E` (R265). -/
  | set7E
  /-- `SET 7,H` (R265). -/
  | set7H
  /-- `SET 7,L` (R265). -/
  | set7L
  /-- `SET 7,(HL)` (R266). -/
  | set7AtHl
  /-- `SET 7,A` (R265). -/
  | set7A
  deriving DecidableEq, Repr

end Sys2Proof
end

