-- ==== Sys2Proof/Machine/State.lean ====
section
/-! DEFINITION. The state of the machine as plain data: the register file and control state of 10_state.md, the two
stores behind the memory port (20_memory.md R50, R56), the environment's inputs still to come (R63, R306, R349) and
the parameters the machine was built with (00_scope.md R8). State.reset is Reset() of 70_reset_and_hazards.md R340. -/

namespace Sys2Proof.Machine

/-- The run state of R30. `fault op pc` is the recorded decode fault of 60_exceptions.md R300: the offending byte and
the address it was fetched from. -/
inductive Mode where
  | active
  | halted
  | stopped
  | exited
  | fault (op : Byte) (pc : Word)
  deriving DecidableEq, Repr

/-- `ei_pending` of R32. -/
inductive EiPending where
  | none
  | armed
  | ready
  deriving DecidableEq, Repr

/-- The five interrupt sources of R302, in priority order. -/
inductive IrqSource where
  | vblank | lcdStat | timer | serial | joypad
  deriving DecidableEq, Repr

/-- One act of an agent outside the core: a byte written (R63), which IE takes from software alone (R33; log entry 18), or a
request posted (R306). -/
inductive EnvAct where
  | write (addr : Word) (v : Byte)
  | post (k : IrqSource)
  deriving DecidableEq, Repr

/-- Everything the spec gives the machine. `boot` is the boot overlay store (R36, R56); `env` holds the environment's
inputs still to come, one list of acts for each point where they may land (R63, R349; DESIGN CHOICE, log entry 4); `cfg` holds the
parameters of R8, which nothing changes (DESIGN CHOICE, log entry 2). `f` is a whole byte, whose low nibble every write
clears (DESIGN CHOICE, log entry 14), and `eiPending` is there under both EI_DELAY values (DESIGN CHOICE, log entry 15). -/
structure State where
  a : Byte
  f : Byte
  b : Byte
  c : Byte
  d : Byte
  e : Byte
  h : Byte
  l : Byte
  sp : Word
  pc : Word
  ime : Bool
  mode : Mode
  eiPending : EiPending
  stepCycles : Nat
  totalCycles : Nat
  mem : Memory
  boot : Vector Byte 256
  env : List (List EnvAct)
  cfg : Params
  deriving DecidableEq, Repr

/-- Reasons for the machine to stop with a fault of the HOST's kind: there are none. The one fault of the spec, the
decode fault, is a state of the machine (`Mode.fault`, R300: "kept as a state so that a model can observe it"), and a
round in that state does nothing (R307). Safe: no step ends in this outcome (DEDUCED, log entry 10). -/
inductive Fault where
  deriving DecidableEq, Repr

/-- Reasons to refuse. The machine's step refuses nothing; a launch out of the order of R343 is refused. -/
inductive Refusal where
  /-- an instruction whose arm has no meaning yet; no arm of this model answers so. Safe. -/
  | notModelled (mnemonic : String)
  /-- LoadCartridge with more than 32,768 bytes: `Error(CartridgeTooLarge)`, no state changes (R344). Safe. -/
  | cartridgeTooLarge
  /-- a second LoadCartridge in one launch: "At most one" (R343). Safe. -/
  | secondCartridge
  /-- Reset or LoadCartridge once the rounds of step 3 have begun: "a model refuses it" (R343, D27; log entry 13). Safe. -/
  | launchAlreadyRunning
  /-- any operation after a failed load: "the launch then does not run" (R344). Safe. -/
  | launchFailed
  deriving DecidableEq, Repr

/-! ## Reset -/

/-- What Reset() takes: the parameters of R8, among them `INIT_MEM` (as the bytes it lists; every other byte is 0x00,
its default) and `BOOT_ROM`. -/
structure Launch where
  params : Params
  initMem : List (Word × Byte)
  bootRom : Vector Byte 256
  deriving DecidableEq, Repr

/-- `INIT_MEM` as a memory: the listed bytes written one after another over all 0x00. -/
def Launch.initMemory (l : Launch) : Memory :=
  l.initMem.foldl (fun m c => Memory.write m c.1.toNat c.2) []

/-- `BOOT_ROM` as the free value Config.bootRom gives it (R56, D24; DESIGN CHOICE, log entry 1). -/
def Launch.freeBootRom : Vector Byte 256 :=
  ⟨((List.range 256).map Config.bootRom).toArray, by simp⟩

/-- Every parameter at its default: `INIT_MEM` all 0x00, `BOOT_ROM` free. -/
def Launch.default : Launch :=
  { params := Params.default, initMem := [], bootRom := Launch.freeBootRom }

/-- Reset() for `RESET_MODE = zero` (R340): the `zero` column of R41. -/
def State.resetZero (l : Launch) : State :=
  { a := 0x00, f := 0x00, b := 0x00, c := 0x00, d := 0x00, e := 0x00, h := 0x00, l := 0x00
    sp := 0x0000, pc := 0x0000, ime := false, mode := .active, eiPending := .none
    stepCycles := 0, totalCycles := 0
    mem := l.initMemory, boot := l.bootRom, env := [], cfg := l.params }

/-- Reset() for `RESET_MODE = post_boot` (R341): the `post_boot` column of R41, the rest as in R340. -/
def State.resetPostBoot (l : Launch) : State :=
  { State.resetZero l with
    a := 0x01, f := 0xB0, b := 0x00, c := 0x13, d := 0x00, e := 0xD8, h := 0x01, l := 0x4D
    sp := 0xFFFE, pc := 0x0100, mem := Memory.write l.initMemory 0xFF50 0x01 }

/-- Reset() for the RESET_MODE of the launch (R340, R341). -/
def State.resetWith (l : Launch) : State :=
  match l.params.resetMode with
  | .zero => State.resetZero l
  | .postBoot => State.resetPostBoot l

/-- The machine right after reset at the defaults of R8 (R340). -/
def State.reset : State := State.resetWith Launch.default

end Sys2Proof.Machine
end

