-- ==== Sys2Proof/Machine/Ops.lean ====
section
/-! DEFINITION. The named operations over the state that every meaning is built from: the memory port and the points
where the environment's acts land (20_memory.md), the register file (10_state.md), the stack, the cycle counters, and,
once for all, taking the decode fault and an interrupt and returning from one (60_exceptions.md). -/

namespace Sys2Proof.Machine

/-! ## The memory port (R51 to R56) -/

/-- The address of IE, the interrupt-enable register (R33). -/
def ieAddr : Word := 0xFFFF

/-- The address of IF, the interrupt-request register (R34). -/
def ifAddr : Word := 0xFF0F

/-- The address of the boot latch (R35). -/
def latchAddr : Word := 0xFF50

/-- The place in the overlay store that an address of 0x0000 to 0x00FF names. -/
def bootIndex (a : Word) : Fin 256 := ⟨a.toNat % 256, Nat.mod_lt _ (by decide)⟩

/-- Whether an access to `a` goes to the boot overlay: `addr <= 0x00FF and mem[0xFF50] = 0x00`, the latch inspected at
every access (R51, R53). -/
def State.inOverlay (s : State) (a : Word) : Bool :=
  decide (a.toNat ≤ 0xFF) && decide (Memory.read s.mem latchAddr.toNat = 0x00)

/-- `MemRead(addr, 1)` (R51). -/
def State.memRead (s : State) (a : Word) : Byte :=
  if s.inOverlay a then s.boot.get (bootIndex a) else Memory.read s.mem a.toNat

/-- `MemWrite(addr, 1, v)` (R52). -/
def State.memWrite (s : State) (a : Word) (v : Byte) : State :=
  if s.inOverlay a then
    match s.cfg.bootOverlayWrites with
    | .redirect => { s with boot := s.boot.set (bootIndex a).val v (bootIndex a).isLt }
    | .ignore => s
  else { s with mem := Memory.write s.mem a.toNat v }

/-! ## The environment (R63, R306, R349) -/

/-- The bit of IE and IF that belongs to a source (R302). -/
def IrqSource.bit : IrqSource → Nat
  | .vblank => 0
  | .lcdStat => 1
  | .timer => 2
  | .serial => 3
  | .joypad => 4

/-- The mask of a source's bit in IE and IF (R302). -/
def IrqSource.mask (k : IrqSource) : Byte := BitVec.twoPow 8 k.bit

/-- The vector of a source: `0x0040 + 8 * k` (R302, R303). -/
def IrqSource.vector (k : IrqSource) : Word := BitVec.ofNat 16 (0x40 + 8 * k.bit)

/-- `PostInterrupt(k)`: `IF <- IF | (1 << k)`, "a memory write to 0xFF0F" (R306). -/
def State.postInterrupt (s : State) (k : IrqSource) : State :=
  s.memWrite ifAddr (s.memRead ifAddr ||| k.mask)

/-- A byte that another agent writes (R63). It goes through the port, so the overlay redirects it as it would the core's
(DEDUCED, log entry 5). "Only software writes IE" (R33): at 0xFFFF it changes nothing (DESIGN CHOICE, log entry 18, which
also says what it may do at IF). -/
def State.envWrite (s : State) (a : Word) (v : Byte) : State :=
  if a = ieAddr then s else s.memWrite a v

/-- One act of the environment (R63, R306). -/
def State.applyEnv (s : State) : EnvAct → State
  | .write a v => s.envWrite a v
  | .post k => s.postInterrupt k

/-- The acts of one point, in order. -/
def State.applyEnvs (s : State) (acts : List EnvAct) : State := acts.foldl State.applyEnv s

/-- The acts due at the next point land, if any are still to come. -/
def State.landEnv (s : State) : State :=
  match s.env with
  | [] => s
  | acts :: later => State.applyEnvs { s with env := later } acts

/-- The point after a byte access of an instruction: with `ENV_WRITE_POINTS = byte` the environment's acts may land
there, with `round` they may not (R63; DEDUCED, log entry 6). -/
def State.afterAccess (s : State) : State :=
  match s.cfg.envWritePoints with
  | .round => s
  | .byte => s.landEnv

/-- A byte write of an instruction, and the point after it (R61, R63). -/
def State.store (s : State) (a : Word) (v : Byte) : State := (s.memWrite a v).afterAccess

/-! ## The register file (R20 to R27) -/

/-- `x[i]` for a code that is a register (R11, R85). -/
def State.reg (s : State) : Reg8 → Byte
  | .b => s.b
  | .c => s.c
  | .d => s.d
  | .e => s.e
  | .h => s.h
  | .l => s.l
  | .a => s.a

/-- `x[i] <- v` for a code that is a register (R11, R85). -/
def State.setReg (s : State) (r : Reg8) (v : Byte) : State :=
  match r with
  | .b => { s with b := v }
  | .c => { s with c := v }
  | .d => { s with d := v }
  | .e => { s with e := v }
  | .h => { s with h := v }
  | .l => { s with l := v }
  | .a => { s with a := v }

/-- A write of the whole flag byte: every write stores `v & 0xF0` (R22). -/
def State.setF (s : State) (v : Byte) : State := { s with f := v &&& 0xF0 }

/-- `BC` (R23). -/
def State.bc (s : State) : Word := join s.b s.c
/-- `DE` (R23). -/
def State.de (s : State) : Word := join s.d s.e
/-- `HL` (R23). -/
def State.hl (s : State) : Word := join s.h s.l
/-- `AF` (R23). -/
def State.af (s : State) : Word := join s.a s.f

/-- A write of `BC` splits the value (R23). -/
def State.setBc (s : State) (v : Word) : State := { s with b := hiByte v, c := loByte v }
/-- A write of `DE` splits the value (R23). -/
def State.setDe (s : State) (v : Word) : State := { s with d := hiByte v, e := loByte v }
/-- A write of `HL` splits the value (R23). -/
def State.setHl (s : State) (v : Word) : State := { s with h := hiByte v, l := loByte v }
/-- A write of `AF` splits the value and clears the low nibble of F (R23, R24). -/
def State.setAf (s : State) (v : Word) : State := ({ s with a := hiByte v }).setF (loByte v)

/-- A write of `SP` (R25). -/
def State.setSp (s : State) (v : Word) : State := { s with sp := v }

/-- `PC <- target` (R12). -/
def State.setPc (s : State) (v : Word) : State := { s with pc := v }

/-- `rp[i]` (R11, R86). -/
def State.pair (s : State) : Pair → Word
  | .bc => s.bc
  | .de => s.de
  | .hl => s.hl
  | .sp => s.sp

/-- `rp[i] <- v` (R11, R86). -/
def State.setPair (s : State) (p : Pair) (v : Word) : State :=
  match p with
  | .bc => s.setBc v
  | .de => s.setDe v
  | .hl => s.setHl v
  | .sp => s.setSp v

/-- `rp2[i]` (R11, R87). -/
def State.stackPair (s : State) : StackPair → Word
  | .bc => s.bc
  | .de => s.de
  | .hl => s.hl
  | .af => s.af

/-- `rp2[i] <- v` (R11, R87). -/
def State.setStackPair (s : State) (p : StackPair) (v : Word) : State :=
  match p with
  | .bc => s.setBc v
  | .de => s.setDe v
  | .hl => s.setHl v
  | .af => s.setAf v

/-! ## Multi-byte access and the stack (R57 to R60) -/

/-- `Read16(addr)` (R58): the low byte first, a point for the environment after each byte. -/
def State.read16 (s : State) (a : Word) : Word × State :=
  let lo := s.memRead a
  let s := s.afterAccess
  let hi := s.memRead (a + 1)
  (join hi lo, s.afterAccess)

/-- `Write16(addr, v)` (R58): the low byte first. -/
def State.write16 (s : State) (a : Word) (v : Word) : State :=
  (s.store a (loByte v)).store (a + 1) (hiByte v)

/-- `Push16(v)` (R59): the high byte at SP-1, then the low byte at SP-2. -/
def State.push16 (s : State) (v : Word) : State :=
  let s := s.setSp (s.sp - 1)
  let s := s.store s.sp (hiByte v)
  let s := s.setSp (s.sp - 1)
  s.store s.sp (loByte v)

/-- `Pop16()` (R60): the low byte at SP, then the high byte at SP+1. -/
def State.pop16 (s : State) : Word × State :=
  let lo := s.memRead s.sp
  let s := s.afterAccess
  let s := s.setSp (s.sp + 1)
  let hi := s.memRead s.sp
  let s := s.afterAccess
  (join hi lo, s.setSp (s.sp + 1))

/-! ## Cycle counters (R31) -/

/-- `cycles(n)`: `step_cycles <- n`, and `n` added to `total_cycles` (R31). -/
def State.cycles (s : State) (n : Nat) : State :=
  { s with stepCycles := n, totalCycles := s.totalCycles + n }

/-- `n` more cycles in the same round: added to both counters (R31, R308). -/
def State.moreCycles (s : State) (n : Nat) : State :=
  { s with stepCycles := s.stepCycles + n, totalCycles := s.totalCycles + n }

/-! ## Taking an exception and returning from one (60_exceptions.md) -/

/-- `raise DecodeFault(op, pc)` (R300): the fault is recorded in `mode` and nothing else changes. -/
def State.raiseDecodeFault (s : State) (op : Byte) (pc0 : Word) : State :=
  { s with mode := .fault op pc0 }

/-- `IE & IF & 0x1F`: the requests that are both pending and enabled (R302, R303). -/
def State.pendingEnabled (s : State) : Byte := s.memRead ieAddr &&& s.memRead ifAddr &&& 0x1F

/-- The source of the lowest set bit of `p`, bit 0 of highest priority (R302, R304). -/
def lowestSource (p : Byte) : Option IrqSource :=
  if p.getLsbD 0 then some .vblank
  else if p.getLsbD 1 then some .lcdStat
  else if p.getLsbD 2 then some .timer
  else if p.getLsbD 3 then some .serial
  else if p.getLsbD 4 then some .joypad
  else none

/-- `Arbiter()` (R303): the vector to dispatch, if IME is set and a request is pending and enabled, with the served
request bit and IME cleared; otherwise none, and nothing changes. One atomic operation: no act of the environment lands
in it (R309). -/
def State.arbiter (s : State) : Option Word × State :=
  if s.ime then
    match lowestSource s.pendingEnabled with
    | none => (none, s)
    | some k =>
      (some k.vector, { s.memWrite ifAddr (s.memRead ifAddr &&& ~~~k.mask) with ime := false })
  else (none, s)

/-- The `Push16` of a dispatch: as R59, with no point for the environment between its bytes (R309). -/
def State.pushAtomic (s : State) (v : Word) : State :=
  let s := s.setSp (s.sp - 1)
  let s := s.memWrite s.sp (hiByte v)
  let s := s.setSp (s.sp - 1)
  s.memWrite s.sp (loByte v)

/-- `Dispatch(v)` (R308): the PC is pushed, execution goes on at the vector, and the core is active again. -/
def State.dispatch (s : State) (v : Word) : State :=
  ({ (s.pushAtomic s.pc).setPc v with mode := .active }).moreCycles s.cfg.intDispatchCycles

/-- The return from an interrupt handler (R280, R314): PC popped, IME set at once whatever EI_DELAY is, and a delayed EI
forgotten. Nothing else is restored. -/
def State.returnFromInterrupt (s : State) : State :=
  let r := s.pop16
  { r.2.setPc r.1 with ime := true, eiPending := .none }

/-- `EICommit()` (R313). -/
def State.eiCommit (s : State) : State :=
  match s.cfg.eiDelay with
  | .zero => s
  | .one =>
    match s.eiPending with
    | .ready => { s with ime := true, eiPending := .none }
    | .armed => { s with eiPending := .ready }
    | .none => s

/-- The condition of R320: no later round can wake the halted core. -/
def State.wakeImpossible (s : State) : Bool :=
  decide (s.memRead ieAddr &&& 0x1F = 0x00) ||
    (!s.ime && decide (s.cfg.haltWakeIme0 = Config.HaltWakeIme0.stay))

/-- `HaltWake()` (R312, R320), called when the core is halted and no vector was dispatched. -/
def State.haltWake (s : State) : State :=
  if s.pendingEnabled ≠ 0x00 ∧ s.cfg.haltWakeIme0 = Config.HaltWakeIme0.wake then { s with mode := .active }
  else if s.cfg.exitOnIdleHalt = true ∧ s.wakeImpossible = true then { s with mode := .exited }
  else s

/-- The rest of a round after its instruction (R307): the EI commit, the poll, and the dispatch or the wake. -/
def State.poll (s : State) : State :=
  let r := s.eiCommit.arbiter
  match r.1 with
  | some v => r.2.dispatch v
  | none => if r.2.mode = .halted then r.2.haltWake else r.2

/-- The end of an Active round after its instruction: a fault or STOP ends it at once, otherwise the rest follows
(R307, R300, R319). -/
def State.endRound (s : State) : State :=
  match s.mode with
  | .fault _ _ => s
  | .stopped => s
  | _ => s.poll

/-- A Halted round: nothing is fetched, the PC stays, HALT_IDLE_CYCLES are counted, and the rest follows (R307). -/
def State.idleRound (s : State) : State := (s.cycles s.cfg.haltIdleCycles).poll

/-- DI (R123): IME cleared, and a delayed EI forgotten when EI_DELAY is 1. -/
def State.disableInterrupts (s : State) : State :=
  match s.cfg.eiDelay with
  | .zero => { s with ime := false }
  | .one => { s with ime := false, eiPending := .none }

/-- EI (R124): IME set at once when EI_DELAY is 0; otherwise the delay armed, unless one is pending already. -/
def State.enableInterrupts (s : State) : State :=
  match s.cfg.eiDelay with
  | .zero => { s with ime := true }
  | .one =>
    match s.eiPending with
    | .none => { s with eiPending := .armed }
    | .armed => s
    | .ready => s

/-- A change of the run state by an instruction (R30, R121, R122). -/
def State.setMode (s : State) (m : Mode) : State := { s with mode := m }

end Sys2Proof.Machine
end

