-- ==== Sys2Proof/Machine/Flags.lean ====
section
/-! DEFINITION. Every flag computation of the spec: the flag register of 10_state.md R21, the five primitives of
40_arith_flag_engine.md (add8, add16, sub8, sub16, bcd_correct) with the parameterised alternatives, the increments and
decrements, the logic operations, the rotates and shifts, and BIT. Each primitive is a function of its operands and of
the incoming flags that answers a result and the four flags to write; `State.setFlags` writes them. -/

namespace Sys2Proof.Machine

/-! ## The flag register (R21, R22, R27) -/

/-- The four flags (R21). -/
structure Flags where
  z : Bool
  n : Bool
  h : Bool
  c : Bool
  deriving DecidableEq, Repr

/-- The names of the four flags (R21). -/
inductive FlagName where
  | z | n | h | c
  deriving DecidableEq, Repr

/-- F as SetFlags writes it: Z in bit 7, N in 6, H in 5, C in 4, and zeros below (R21, R11). -/
def Flags.toByte (fl : Flags) : Byte :=
  BitVec.ofBool fl.z ++ BitVec.ofBool fl.n ++ BitVec.ofBool fl.h ++ BitVec.ofBool fl.c ++ 0#4

/-- The four flags F holds (R21). -/
def Flags.ofByte (f : Byte) : Flags :=
  { z := f.getLsbD 7, n := f.getLsbD 6, h := f.getLsbD 5, c := f.getLsbD 4 }

/-- The flags of a state. -/
def State.flags (s : State) : Flags := Flags.ofByte s.f

/-- `SetFlags(z, n, h, c)`: all four at once, and zeros in the low nibble (R11, R22, R100). -/
def State.setFlags (s : State) (fl : Flags) : State := s.setF fl.toByte

/-- The value of one flag (R27: "set, clear or test each flag individually"). -/
def State.testFlag (s : State) : FlagName → Bool
  | .z => s.flags.z
  | .n => s.flags.n
  | .h => s.flags.h
  | .c => s.flags.c

/-- One flag set or cleared, the others kept (R27). -/
def State.putFlag (s : State) (name : FlagName) (v : Bool) : State :=
  match name with
  | .z => s.setFlags { s.flags with z := v }
  | .n => s.setFlags { s.flags with n := v }
  | .h => s.setFlags { s.flags with h := v }
  | .c => s.setFlags { s.flags with c := v }

/-- `cond(cc)` (R88). -/
def State.cond (s : State) : Cond → Bool
  | .nz => !s.flags.z
  | .z => s.flags.z
  | .nc => !s.flags.c
  | .c => s.flags.c

/-! ## Addition and subtraction (R100 to R104) -/

/-- A result with the flags it comes with. -/
structure Res8 where
  res : Byte
  flags : Flags
  deriving DecidableEq, Repr

/-- A 16-bit result with the flags it comes with. -/
structure Res16 where
  res : Word
  flags : Flags
  deriving DecidableEq, Repr

/-- `add8(a, b, use_carry)` with the incoming carry flag `cf` (R101). -/
def add8 (a b : Byte) (useCarry cf : Bool) : Res8 :=
  let cin := bitNat (useCarry && cf)
  let s := a.toNat + b.toNat + cin
  let res := BitVec.ofNat 8 s
  { res := res
    flags :=
      { z := decide (res = 0)
        n := false
        h := decide (lowNibble a + lowNibble b + cin > 0xF)
        c := decide (s > 0xFF) } }

/-- `add16(a, b, use_carry)` with the incoming carry flag `cf` (R102): the half-carry is out of the low byte. -/
def add16 (a b : Word) (useCarry cf : Bool) : Res16 :=
  let cin := bitNat (useCarry && cf)
  let s := a.toNat + b.toNat + cin
  let res := BitVec.ofNat 16 s
  { res := res
    flags :=
      { z := decide (res = 0)
        n := false
        h := decide ((loByte a).toNat + (loByte b).toNat + cin > 0xFF)
        c := decide (s > 0xFFFF) } }

/-- `sub8(a, b, use_carry)` with the incoming carry flag `cf`, under a SUB_HALF_READING (R103). -/
def sub8 (reading : Config.SubHalfReading) (a b : Byte) (useCarry cf : Bool) : Res8 :=
  let bin := bitNat (useCarry && cf)
  let res := BitVec.ofInt 8 ((a.toNat : Int) - b.toNat - bin)
  { res := res
    flags :=
      { z := decide (res = 0)
        n := true
        h :=
          match reading with
          | .nibblePlusBorrow => decide (lowNibble a < lowNibble b + bin)
          | .nibbleOfSum => decide (lowNibble a < (b.toNat + bin) % 256 % 16)
        c := decide (a.toNat < b.toNat + bin) } }

/-- `sub16(a, b, use_carry)` with the incoming carry flag `cf`, under a SUB_HALF_READING (R104). No instruction leaves
its flags in F; it makes the engine complete. -/
def sub16 (reading : Config.SubHalfReading) (a b : Word) (useCarry cf : Bool) : Res16 :=
  let bin := bitNat (useCarry && cf)
  let res := BitVec.ofInt 16 ((a.toNat : Int) - b.toNat - bin)
  { res := res
    flags :=
      { z := decide (res = 0)
        n := true
        h :=
          match reading with
          | .nibblePlusBorrow => decide ((loByte a).toNat < (loByte b).toNat + bin)
          | .nibbleOfSum => decide ((loByte a).toNat < (b.toNat + bin) % 65536 % 256)
        c := decide (a.toNat < b.toNat + bin) } }

/-! ## Decimal correction (R105 to R107) -/

/-- `bcd_correct` in the addition direction (R105). -/
def bcdAdd (v : Byte) (fl : Flags) : Res8 :=
  let t := if lowNibble v > 9 ∨ fl.h = true then v.toNat + 0x06 else v.toNat
  let c := decide (t / 16 > 9) || decide (highNibble v > 9) || fl.c
  let t := if c = true then t + 0x60 else t
  let res := BitVec.ofNat 8 t
  { res := res, flags := { z := decide (res = 0), n := fl.n, h := false, c := c } }

/-- `bcd_correct` in the subtraction direction (R106). -/
def bcdSub (v : Byte) (fl : Flags) : Res8 :=
  let t : Int := if fl.h = true then (v.toNat : Int) - 0x06 else v.toNat
  let t := if fl.c = true then t - 0x60 else t
  let res := BitVec.ofInt 8 t
  { res := res, flags := { z := decide (res = 0), n := fl.n, h := false, c := fl.c } }

/-- `bcd_correct(v)` under a DAA_MODE (R105, R106), with its flags (R107). -/
def bcdCorrect (mode : Config.DaaMode) (v : Byte) (fl : Flags) : Res8 :=
  match mode with
  | .addOnly => bcdAdd v fl
  | .lr35902 => if fl.n = true then bcdSub v fl else bcdAdd v fl

/-! ## The conventional 16-bit alternatives (R108, R109) -/

/-- `add16_hl_lr(a, b)` with the incoming Z kept (R108). -/
def add16HlLr (a b : Word) (fl : Flags) : Res16 :=
  let s := a.toNat + b.toNat
  { res := BitVec.ofNat 16 s
    flags :=
      { z := fl.z
        n := false
        h := decide (a.toNat % 4096 + b.toNat % 4096 > 0xFFF)
        c := decide (s > 0xFFFF) } }

/-- `ADD HL,rr`'s sum under a FLAG16_MODE (R230). -/
def addHl (mode : Config.Flag16Mode) (a b : Word) (fl : Flags) : Res16 :=
  match mode with
  | .source => add16 a b false fl.c
  | .lr35902 => add16HlLr a b fl

/-- `sp_plus_e(e)` under a FLAG16_MODE (R109). -/
def spPlusE (mode : Config.Flag16Mode) (sp : Word) (e : Byte) (fl : Flags) : Res16 :=
  match mode with
  | .source => add16 sp (sext16 e) false fl.c
  | .lr35902 =>
    { res := sp + sext16 e
      flags :=
        { z := false
          n := false
          h := decide (sp.toNat % 16 + lowNibble e > 0xF)
          c := decide ((loByte sp).toNat + e.toNat > 0xFF) } }

/-! ## The accumulator operations (R89, R190 to R214) -/

/-- A logic operation's result: Z from it, N and C clear (R203, R206, R209). -/
def logic8 (res : Byte) (h : Bool) : Res8 :=
  { res := res, flags := { z := decide (res = 0), n := false, h := h, c := false } }

/-- What operation `op` computes from A, the operand and the incoming carry (R110, R191 to R214). -/
def aluResult (reading : Config.SubHalfReading) (op : AluOp) (a v : Byte) (cf : Bool) : Res8 :=
  match op with
  | .add => add8 a v false cf
  | .adc => add8 a v true cf
  | .sub => sub8 reading a v false cf
  | .sbc => sub8 reading a v true cf
  | .and => logic8 (a &&& v) true
  | .xor => logic8 (a ^^^ v) false
  | .or => logic8 (a ||| v) false
  | .cp => sub8 reading a v false cf

/-- An accumulator operation on a state: the flags written, and the result in A, which CP discards (R190, R212). -/
def State.alu (s : State) (op : AluOp) (v : Byte) : State :=
  let r := aluResult s.cfg.subHalfReading op s.a v s.flags.c
  match op with
  | .cp => s.setFlags r.flags
  | _ => { s.setFlags r.flags with a := r.res }

/-! ## Increment, decrement and the one-operand operations (R215 to R222) -/

/-- INC of a byte: the carry flag is kept (R215). -/
def inc8 (v : Byte) (fl : Flags) : Res8 :=
  let res := v + 1
  { res := res, flags := { z := decide (res = 0), n := false, h := decide (lowNibble v = 0xF), c := fl.c } }

/-- DEC of a byte: the carry flag is kept (R217). -/
def dec8 (v : Byte) (fl : Flags) : Res8 :=
  let res := v - 1
  { res := res, flags := { z := decide (res = 0), n := true, h := decide (lowNibble v = 0x0), c := fl.c } }

/-! ## Rotates and shifts (R240 to R260) -/

/-- The shifted byte and the bit that leaves it, for each operation of R90 (R245 to R259). -/
def rotValue (op : RotOp) (v : Byte) (cf : Bool) : Byte × Bool :=
  match op with
  | .rlc => (v <<< 1 ||| (BitVec.ofBool (v.getLsbD 7)).setWidth 8, v.getLsbD 7)
  | .rrc => (v >>> 1 ||| (BitVec.ofBool (v.getLsbD 0)).setWidth 8 <<< 7, v.getLsbD 0)
  | .rl => (v <<< 1 ||| (BitVec.ofBool cf).setWidth 8, v.getLsbD 7)
  | .rr => (v >>> 1 ||| (BitVec.ofBool cf).setWidth 8 <<< 7, v.getLsbD 0)
  | .sla => (v <<< 1, v.getLsbD 7)
  | .sra => (v >>> 1 ||| (v &&& 0x80), v.getLsbD 0)
  | .swap => (v <<< 4 ||| v >>> 4, false)
  | .srl => (v >>> 1, v.getLsbD 0)

/-- An extended rotate or shift: Z from the result, N and H clear, C the bit that left (R245 to R260). -/
def rot8 (op : RotOp) (v : Byte) (fl : Flags) : Res8 :=
  let r := rotValue op v fl.c
  { res := r.1, flags := { z := decide (r.1 = 0), n := false, h := false, c := r.2 } }

/-- The accumulator rotates RLCA, RRCA, RLA, RRA: as the extended one, but Z is 0 (R240 to R243). -/
def rotA (op : RotOp) (v : Byte) (fl : Flags) : Res8 :=
  let r := rotValue op v fl.c
  { res := r.1, flags := { z := false, n := false, h := false, c := r.2 } }

/-! ## Bits (R261 to R266) -/

/-- BIT's flags: Z is the complement of the bit, H is 1, C is kept (R261). -/
def bitFlags (b : Fin 8) (v : Byte) (fl : Flags) : Flags :=
  { z := !v.getLsbD b.val, n := false, h := true, c := fl.c }

/-- RES: the bit cleared (R263). -/
def resBit (b : Fin 8) (v : Byte) : Byte := v &&& ~~~(BitVec.twoPow 8 b.val)

/-- SET: the bit set (R265). -/
def setBit (b : Fin 8) (v : Byte) : Byte := v ||| BitVec.twoPow 8 b.val

end Sys2Proof.Machine
end

