-- ==== Sys2Proof/Machine/Operands.lean ====
section
/-! DEFINITION. Every operand form the spec gives an instruction, and the operations over operands that the meanings
share: the eight places of R85 (seven registers and the byte at HL), the addresses of the loads (R146 to R159), the
condition of a control transfer, and calls and returns (R270). A memory access of an instruction goes through
`State.load` and `State.store`, so that the environment's acts may land after it when ENV_WRITE_POINTS is byte. -/

namespace Sys2Proof.Machine

/-! ## The eight 8-bit operands (R85) -/

/-- The operand of a 3-bit code (R85). -/
def placeOfCode (z : Nat) : Place :=
  match z with
  | 0 => .reg .b
  | 1 => .reg .c
  | 2 => .reg .d
  | 3 => .reg .e
  | 4 => .reg .h
  | 5 => .reg .l
  | 6 => .atHl
  | _ => .reg .a

/-- The operand's value: `x[i]` or `MemRead(HL, 1)` (R85). -/
def State.value (s : State) : Place → Byte
  | .reg r => s.reg r
  | .atHl => s.memRead s.hl

/-- The state after the operand's value is read: a read changes nothing (R62), but a read of memory is a byte access,
after which the environment's acts may land. -/
def State.afterRead (s : State) : Place → State
  | .reg _ => s
  | .atHl => s.afterAccess

/-- The operand written: `x[i] <- v` or `MemWrite(HL, 1, v)` (R85). -/
def State.put (s : State) (p : Place) (v : Byte) : State :=
  match p with
  | .reg r => s.setReg r v
  | .atHl => s.store s.hl v

/-! ## Accumulator operations, increments, rotates and bits on an operand -/

/-- The accumulator operation with a place as its operand, read once, before A is written (R190). -/
def State.aluPlace (s : State) (op : AluOp) (p : Place) : State := (s.afterRead p).alu op (s.value p)

/-- A byte operation that reads an operand, writes the flags and writes the operand back (R215, R216, R244). -/
def State.modify8 (s : State) (p : Place) (f : Byte → Flags → Res8) : State :=
  let r := f (s.value p) s.flags
  ((s.afterRead p).setFlags r.flags).put p r.res

/-- A byte operation that writes no flag (R263 to R266). -/
def State.modifyQuiet (s : State) (p : Place) (f : Byte → Byte) : State :=
  (s.afterRead p).put p (f (s.value p))

/-- BIT on an operand: the flags only (R261, R262). -/
def State.bitTest (s : State) (b : Fin 8) (p : Place) : State :=
  (s.afterRead p).setFlags (bitFlags b (s.value p) s.flags)

/-- An operation on A alone that writes the flags (R219, R240 to R243). -/
def State.onA (s : State) (f : Byte → Flags → Res8) : State :=
  let r := f s.a s.flags
  { s.setFlags r.flags with a := r.res }

/-- The cycles of an extended instruction: 8 on a register, 16 on the byte at HL, 12 for BIT on it (R244). -/
def extendedCycles (x : Nat) : Place → Nat
  | .reg _ => 8
  | .atHl => if x = 1 then 12 else 16

/-- The rotate or shift of a 3-bit code (R90). -/
def rotOfCode (y : Nat) : RotOp :=
  match y with
  | 0 => .rlc
  | 1 => .rrc
  | 2 => .rl
  | 3 => .rr
  | 4 => .sla
  | 5 => .sra
  | 6 => .swap
  | _ => .srl

/-- The extended instruction a second byte selects, from its fields alone (R81, R91, R96, R244): `x = 0` rotates or
shifts, `x = 1` is BIT, `x = 2` RES, `x = 3` SET. -/
def State.extended (s : State) (op2 : Byte) : State :=
  let x := op2.toNat / 64
  let y := op2.toNat / 8 % 8
  let p := placeOfCode (op2.toNat % 8)
  let b := Fin.ofNat 8 y
  let s' :=
    match x with
    | 0 => s.modify8 p (rot8 (rotOfCode y))
    | 1 => s.bitTest b p
    | 2 => s.modifyQuiet p (resBit b)
    | _ => s.modifyQuiet p (setBit b)
  s'.cycles (extendedCycles x p)

/-! ## Loads (R140 to R159) -/

/-- `r <- MemRead(a, 1)` (R143, R146, R150, R152). -/
def State.load (s : State) (r : Reg8) (a : Word) : State := s.afterAccess.setReg r (s.memRead a)

/-- The loads and stores that step HL after the access, by 1 up or down (R156 to R159). -/
def State.stepHl (s : State) (by1 : Word) : State := s.setHl (s.hl + by1)

/-! ## Control transfer (R270) -/

/-- A relative jump: `PC <- trunc_16(PC + sext_16(e))`, the base being the PC after the instruction (R83, R274). -/
def State.jumpRel (s : State) (e : Byte) : State := s.setPc (s.pc + sext16 e)

/-- A call: the PC after the instruction pushed, then the target (R270, R276, R281). -/
def State.call (s : State) (target : Word) : State := (s.push16 s.pc).setPc target

/-- A return: the PC popped (R270, R278). -/
def State.ret (s : State) : State :=
  let r := s.pop16
  r.2.setPc r.1

/-- A conditional form: one effect and cycle count when `cond(cc)` holds on F as it stands, another when it does not,
where nothing but the counters changes (R270). -/
def State.ifCond (s : State) (cc : Cond) (taken : State → State) (takenCycles notTakenCycles : Nat) : State :=
  if s.cond cc then (taken s).cycles takenCycles else s.cycles notTakenCycles

end Sys2Proof.Machine
end

