-- ==== Sys2Proof/Machine/Alu16.lean ====
section
/-! DEFINITION. The meanings of 45_alu16.md: ADD HL,rr, INC rr, DEC rr and ADD SP,e. -/

namespace Sys2Proof.Machine

/-- `HL <- HL + v` with the flags of the FLAG16_MODE (R230). -/
def State.addToHl (s : State) (v : Word) : State :=
  let r := addHl s.cfg.flag16Mode s.hl v s.flags
  (s.setFlags r.flags).setHl r.res

/-- `SP <- sp_plus_e(e)` (R233). -/
def State.addSpRel (s : State) (e : Byte) : State :=
  let r := spPlusE s.cfg.flag16Mode s.sp e s.flags
  (s.setFlags r.flags).setSp r.res


/-- `INC BC` (R231). -/
def execIncBc (s : State) : Host.Outcome State Fault Refusal :=
  .next ((s.setPair .bc (s.pair .bc + 1)).cycles 8)

/-- `ADD HL,BC` (R230). -/
def execAddHlBc (s : State) : Host.Outcome State Fault Refusal :=
  .next ((s.addToHl (s.pair .bc)).cycles 8)

/-- `DEC BC` (R232). -/
def execDecBc (s : State) : Host.Outcome State Fault Refusal :=
  .next ((s.setPair .bc (s.pair .bc - 1)).cycles 8)

/-- `INC DE` (R231). -/
def execIncDe (s : State) : Host.Outcome State Fault Refusal :=
  .next ((s.setPair .de (s.pair .de + 1)).cycles 8)

/-- `ADD HL,DE` (R230). -/
def execAddHlDe (s : State) : Host.Outcome State Fault Refusal :=
  .next ((s.addToHl (s.pair .de)).cycles 8)

/-- `DEC DE` (R232). -/
def execDecDe (s : State) : Host.Outcome State Fault Refusal :=
  .next ((s.setPair .de (s.pair .de - 1)).cycles 8)

/-- `INC HL` (R231). -/
def execIncHl (s : State) : Host.Outcome State Fault Refusal :=
  .next ((s.setPair .hl (s.pair .hl + 1)).cycles 8)

/-- `ADD HL,HL` (R230). -/
def execAddHlHl (s : State) : Host.Outcome State Fault Refusal :=
  .next ((s.addToHl (s.pair .hl)).cycles 8)

/-- `DEC HL` (R232). -/
def execDecHl (s : State) : Host.Outcome State Fault Refusal :=
  .next ((s.setPair .hl (s.pair .hl - 1)).cycles 8)

/-- `INC SP` (R231). -/
def execIncSp (s : State) : Host.Outcome State Fault Refusal :=
  .next ((s.setPair .sp (s.pair .sp + 1)).cycles 8)

/-- `ADD HL,SP` (R230). -/
def execAddHlSp (s : State) : Host.Outcome State Fault Refusal :=
  .next ((s.addToHl (s.pair .sp)).cycles 8)

/-- `DEC SP` (R232). -/
def execDecSp (s : State) : Host.Outcome State Fault Refusal :=
  .next ((s.setPair .sp (s.pair .sp - 1)).cycles 8)

/-- `ADD SP,e` (R233). -/
def execAddSpRel (e : Byte) (s : State) : Host.Outcome State Fault Refusal :=
  .next ((s.addSpRel e).cycles 16)

end Sys2Proof.Machine
end

