-- ==== Sys2Proof/Machine/Alu8.lean ====
section
/-! DEFINITION. The meanings of 44_alu8.md: the accumulator operations in their three operand forms, 8-bit increment
and decrement, DAA, CPL, SCF and CCF. The arithmetic is that of Machine/Flags.lean, as R110 assigns it. -/

namespace Sys2Proof.Machine

/-- CPL (R220): A complemented, N and H set, Z and C kept. -/
def State.complementA (s : State) : State :=
  { s.setFlags { z := s.flags.z, n := true, h := true, c := s.flags.c } with a := ~~~s.a }

/-- SCF (R221): C set, N and H cleared, Z kept. -/
def State.setCarry (s : State) : State :=
  s.setFlags { z := s.flags.z, n := false, h := false, c := true }

/-- CCF (R222): C complemented, N and H cleared, Z kept. -/
def State.flipCarry (s : State) : State :=
  s.setFlags { z := s.flags.z, n := false, h := false, c := !s.flags.c }


/-- `INC B` (R215). -/
def execIncB (s : State) : Host.Outcome State Fault Refusal :=
  .next ((s.modify8 (.reg .b) inc8).cycles 4)

/-- `DEC B` (R217). -/
def execDecB (s : State) : Host.Outcome State Fault Refusal :=
  .next ((s.modify8 (.reg .b) dec8).cycles 4)

/-- `INC C` (R215). -/
def execIncC (s : State) : Host.Outcome State Fault Refusal :=
  .next ((s.modify8 (.reg .c) inc8).cycles 4)

/-- `DEC C` (R217). -/
def execDecC (s : State) : Host.Outcome State Fault Refusal :=
  .next ((s.modify8 (.reg .c) dec8).cycles 4)

/-- `INC D` (R215). -/
def execIncD (s : State) : Host.Outcome State Fault Refusal :=
  .next ((s.modify8 (.reg .d) inc8).cycles 4)

/-- `DEC D` (R217). -/
def execDecD (s : State) : Host.Outcome State Fault Refusal :=
  .next ((s.modify8 (.reg .d) dec8).cycles 4)

/-- `INC E` (R215). -/
def execIncE (s : State) : Host.Outcome State Fault Refusal :=
  .next ((s.modify8 (.reg .e) inc8).cycles 4)

/-- `DEC E` (R217). -/
def execDecE (s : State) : Host.Outcome State Fault Refusal :=
  .next ((s.modify8 (.reg .e) dec8).cycles 4)

/-- `INC H` (R215). -/
def execIncH (s : State) : Host.Outcome State Fault Refusal :=
  .next ((s.modify8 (.reg .h) inc8).cycles 4)

/-- `DEC H` (R217). -/
def execDecH (s : State) : Host.Outcome State Fault Refusal :=
  .next ((s.modify8 (.reg .h) dec8).cycles 4)

/-- `DAA` (R219). -/
def execDaa (s : State) : Host.Outcome State Fault Refusal :=
  .next ((s.onA (bcdCorrect s.cfg.daaMode)).cycles 4)

/-- `INC L` (R215). -/
def execIncL (s : State) : Host.Outcome State Fault Refusal :=
  .next ((s.modify8 (.reg .l) inc8).cycles 4)

/-- `DEC L` (R217). -/
def execDecL (s : State) : Host.Outcome State Fault Refusal :=
  .next ((s.modify8 (.reg .l) dec8).cycles 4)

/-- `CPL` (R220). -/
def execCpl (s : State) : Host.Outcome State Fault Refusal :=
  .next (s.complementA.cycles 4)

/-- `INC (HL)` (R216). -/
def execIncAtHl (s : State) : Host.Outcome State Fault Refusal :=
  .next ((s.modify8 .atHl inc8).cycles 12)

/-- `DEC (HL)` (R218). -/
def execDecAtHl (s : State) : Host.Outcome State Fault Refusal :=
  .next ((s.modify8 .atHl dec8).cycles 12)

/-- `SCF` (R221). -/
def execScf (s : State) : Host.Outcome State Fault Refusal :=
  .next (s.setCarry.cycles 4)

/-- `INC A` (R215). -/
def execIncA (s : State) : Host.Outcome State Fault Refusal :=
  .next ((s.modify8 (.reg .a) inc8).cycles 4)

/-- `DEC A` (R217). -/
def execDecA (s : State) : Host.Outcome State Fault Refusal :=
  .next ((s.modify8 (.reg .a) dec8).cycles 4)

/-- `CCF` (R222). -/
def execCcf (s : State) : Host.Outcome State Fault Refusal :=
  .next (s.flipCarry.cycles 4)

/-- `ADD A,B` (R191). -/
def execAddAB (s : State) : Host.Outcome State Fault Refusal :=
  .next ((s.aluPlace .add (.reg .b)).cycles 4)

/-- `ADD A,C` (R191). -/
def execAddAC (s : State) : Host.Outcome State Fault Refusal :=
  .next ((s.aluPlace .add (.reg .c)).cycles 4)

/-- `ADD A,D` (R191). -/
def execAddAD (s : State) : Host.Outcome State Fault Refusal :=
  .next ((s.aluPlace .add (.reg .d)).cycles 4)

/-- `ADD A,E` (R191). -/
def execAddAE (s : State) : Host.Outcome State Fault Refusal :=
  .next ((s.aluPlace .add (.reg .e)).cycles 4)

/-- `ADD A,H` (R191). -/
def execAddAH (s : State) : Host.Outcome State Fault Refusal :=
  .next ((s.aluPlace .add (.reg .h)).cycles 4)

/-- `ADD A,L` (R191). -/
def execAddAL (s : State) : Host.Outcome State Fault Refusal :=
  .next ((s.aluPlace .add (.reg .l)).cycles 4)

/-- `ADD A,(HL)` (R192). -/
def execAddAAtHl (s : State) : Host.Outcome State Fault Refusal :=
  .next ((s.aluPlace .add .atHl).cycles 8)

/-- `ADD A,A` (R191). -/
def execAddAA (s : State) : Host.Outcome State Fault Refusal :=
  .next ((s.aluPlace .add (.reg .a)).cycles 4)

/-- `ADC A,B` (R194). -/
def execAdcAB (s : State) : Host.Outcome State Fault Refusal :=
  .next ((s.aluPlace .adc (.reg .b)).cycles 4)

/-- `ADC A,C` (R194). -/
def execAdcAC (s : State) : Host.Outcome State Fault Refusal :=
  .next ((s.aluPlace .adc (.reg .c)).cycles 4)

/-- `ADC A,D` (R194). -/
def execAdcAD (s : State) : Host.Outcome State Fault Refusal :=
  .next ((s.aluPlace .adc (.reg .d)).cycles 4)

/-- `ADC A,E` (R194). -/
def execAdcAE (s : State) : Host.Outcome State Fault Refusal :=
  .next ((s.aluPlace .adc (.reg .e)).cycles 4)

/-- `ADC A,H` (R194). -/
def execAdcAH (s : State) : Host.Outcome State Fault Refusal :=
  .next ((s.aluPlace .adc (.reg .h)).cycles 4)

/-- `ADC A,L` (R194). -/
def execAdcAL (s : State) : Host.Outcome State Fault Refusal :=
  .next ((s.aluPlace .adc (.reg .l)).cycles 4)

/-- `ADC A,(HL)` (R195). -/
def execAdcAAtHl (s : State) : Host.Outcome State Fault Refusal :=
  .next ((s.aluPlace .adc .atHl).cycles 8)

/-- `ADC A,A` (R194). -/
def execAdcAA (s : State) : Host.Outcome State Fault Refusal :=
  .next ((s.aluPlace .adc (.reg .a)).cycles 4)

/-- `SUB B` (R197). -/
def execSubB (s : State) : Host.Outcome State Fault Refusal :=
  .next ((s.aluPlace .sub (.reg .b)).cycles 4)

/-- `SUB C` (R197). -/
def execSubC (s : State) : Host.Outcome State Fault Refusal :=
  .next ((s.aluPlace .sub (.reg .c)).cycles 4)

/-- `SUB D` (R197). -/
def execSubD (s : State) : Host.Outcome State Fault Refusal :=
  .next ((s.aluPlace .sub (.reg .d)).cycles 4)

/-- `SUB E` (R197). -/
def execSubE (s : State) : Host.Outcome State Fault Refusal :=
  .next ((s.aluPlace .sub (.reg .e)).cycles 4)

/-- `SUB H` (R197). -/
def execSubH (s : State) : Host.Outcome State Fault Refusal :=
  .next ((s.aluPlace .sub (.reg .h)).cycles 4)

/-- `SUB L` (R197). -/
def execSubL (s : State) : Host.Outcome State Fault Refusal :=
  .next ((s.aluPlace .sub (.reg .l)).cycles 4)

/-- `SUB (HL)` (R198). -/
def execSubAtHl (s : State) : Host.Outcome State Fault Refusal :=
  .next ((s.aluPlace .sub .atHl).cycles 8)

/-- `SUB A` (R197). -/
def execSubA (s : State) : Host.Outcome State Fault Refusal :=
  .next ((s.aluPlace .sub (.reg .a)).cycles 4)

/-- `SBC A,B` (R200). -/
def execSbcAB (s : State) : Host.Outcome State Fault Refusal :=
  .next ((s.aluPlace .sbc (.reg .b)).cycles 4)

/-- `SBC A,C` (R200). -/
def execSbcAC (s : State) : Host.Outcome State Fault Refusal :=
  .next ((s.aluPlace .sbc (.reg .c)).cycles 4)

/-- `SBC A,D` (R200). -/
def execSbcAD (s : State) : Host.Outcome State Fault Refusal :=
  .next ((s.aluPlace .sbc (.reg .d)).cycles 4)

/-- `SBC A,E` (R200). -/
def execSbcAE (s : State) : Host.Outcome State Fault Refusal :=
  .next ((s.aluPlace .sbc (.reg .e)).cycles 4)

/-- `SBC A,H` (R200). -/
def execSbcAH (s : State) : Host.Outcome State Fault Refusal :=
  .next ((s.aluPlace .sbc (.reg .h)).cycles 4)

/-- `SBC A,L` (R200). -/
def execSbcAL (s : State) : Host.Outcome State Fault Refusal :=
  .next ((s.aluPlace .sbc (.reg .l)).cycles 4)

/-- `SBC A,(HL)` (R201). -/
def execSbcAAtHl (s : State) : Host.Outcome State Fault Refusal :=
  .next ((s.aluPlace .sbc .atHl).cycles 8)

/-- `SBC A,A` (R200). -/
def execSbcAA (s : State) : Host.Outcome State Fault Refusal :=
  .next ((s.aluPlace .sbc (.reg .a)).cycles 4)

/-- `AND B` (R203). -/
def execAndB (s : State) : Host.Outcome State Fault Refusal :=
  .next ((s.aluPlace .and (.reg .b)).cycles 4)

/-- `AND C` (R203). -/
def execAndC (s : State) : Host.Outcome State Fault Refusal :=
  .next ((s.aluPlace .and (.reg .c)).cycles 4)

/-- `AND D` (R203). -/
def execAndD (s : State) : Host.Outcome State Fault Refusal :=
  .next ((s.aluPlace .and (.reg .d)).cycles 4)

/-- `AND E` (R203). -/
def execAndE (s : State) : Host.Outcome State Fault Refusal :=
  .next ((s.aluPlace .and (.reg .e)).cycles 4)

/-- `AND H` (R203). -/
def execAndH (s : State) : Host.Outcome State Fault Refusal :=
  .next ((s.aluPlace .and (.reg .h)).cycles 4)

/-- `AND L` (R203). -/
def execAndL (s : State) : Host.Outcome State Fault Refusal :=
  .next ((s.aluPlace .and (.reg .l)).cycles 4)

/-- `AND (HL)` (R204). -/
def execAndAtHl (s : State) : Host.Outcome State Fault Refusal :=
  .next ((s.aluPlace .and .atHl).cycles 8)

/-- `AND A` (R203). -/
def execAndA (s : State) : Host.Outcome State Fault Refusal :=
  .next ((s.aluPlace .and (.reg .a)).cycles 4)

/-- `XOR B` (R206). -/
def execXorB (s : State) : Host.Outcome State Fault Refusal :=
  .next ((s.aluPlace .xor (.reg .b)).cycles 4)

/-- `XOR C` (R206). -/
def execXorC (s : State) : Host.Outcome State Fault Refusal :=
  .next ((s.aluPlace .xor (.reg .c)).cycles 4)

/-- `XOR D` (R206). -/
def execXorD (s : State) : Host.Outcome State Fault Refusal :=
  .next ((s.aluPlace .xor (.reg .d)).cycles 4)

/-- `XOR E` (R206). -/
def execXorE (s : State) : Host.Outcome State Fault Refusal :=
  .next ((s.aluPlace .xor (.reg .e)).cycles 4)

/-- `XOR H` (R206). -/
def execXorH (s : State) : Host.Outcome State Fault Refusal :=
  .next ((s.aluPlace .xor (.reg .h)).cycles 4)

/-- `XOR L` (R206). -/
def execXorL (s : State) : Host.Outcome State Fault Refusal :=
  .next ((s.aluPlace .xor (.reg .l)).cycles 4)

/-- `XOR (HL)` (R207). -/
def execXorAtHl (s : State) : Host.Outcome State Fault Refusal :=
  .next ((s.aluPlace .xor .atHl).cycles 8)

/-- `XOR A` (R206). -/
def execXorA (s : State) : Host.Outcome State Fault Refusal :=
  .next ((s.aluPlace .xor (.reg .a)).cycles 4)

/-- `OR B` (R209). -/
def execOrB (s : State) : Host.Outcome State Fault Refusal :=
  .next ((s.aluPlace .or (.reg .b)).cycles 4)

/-- `OR C` (R209). -/
def execOrC (s : State) : Host.Outcome State Fault Refusal :=
  .next ((s.aluPlace .or (.reg .c)).cycles 4)

/-- `OR D` (R209). -/
def execOrD (s : State) : Host.Outcome State Fault Refusal :=
  .next ((s.aluPlace .or (.reg .d)).cycles 4)

/-- `OR E` (R209). -/
def execOrE (s : State) : Host.Outcome State Fault Refusal :=
  .next ((s.aluPlace .or (.reg .e)).cycles 4)

/-- `OR H` (R209). -/
def execOrH (s : State) : Host.Outcome State Fault Refusal :=
  .next ((s.aluPlace .or (.reg .h)).cycles 4)

/-- `OR L` (R209). -/
def execOrL (s : State) : Host.Outcome State Fault Refusal :=
  .next ((s.aluPlace .or (.reg .l)).cycles 4)

/-- `OR (HL)` (R210). -/
def execOrAtHl (s : State) : Host.Outcome State Fault Refusal :=
  .next ((s.aluPlace .or .atHl).cycles 8)

/-- `OR A` (R209). -/
def execOrA (s : State) : Host.Outcome State Fault Refusal :=
  .next ((s.aluPlace .or (.reg .a)).cycles 4)

/-- `CP B` (R212). -/
def execCpB (s : State) : Host.Outcome State Fault Refusal :=
  .next ((s.aluPlace .cp (.reg .b)).cycles 4)

/-- `CP C` (R212). -/
def execCpC (s : State) : Host.Outcome State Fault Refusal :=
  .next ((s.aluPlace .cp (.reg .c)).cycles 4)

/-- `CP D` (R212). -/
def execCpD (s : State) : Host.Outcome State Fault Refusal :=
  .next ((s.aluPlace .cp (.reg .d)).cycles 4)

/-- `CP E` (R212). -/
def execCpE (s : State) : Host.Outcome State Fault Refusal :=
  .next ((s.aluPlace .cp (.reg .e)).cycles 4)

/-- `CP H` (R212). -/
def execCpH (s : State) : Host.Outcome State Fault Refusal :=
  .next ((s.aluPlace .cp (.reg .h)).cycles 4)

/-- `CP L` (R212). -/
def execCpL (s : State) : Host.Outcome State Fault Refusal :=
  .next ((s.aluPlace .cp (.reg .l)).cycles 4)

/-- `CP (HL)` (R213). -/
def execCpAtHl (s : State) : Host.Outcome State Fault Refusal :=
  .next ((s.aluPlace .cp .atHl).cycles 8)

/-- `CP A` (R212). -/
def execCpA (s : State) : Host.Outcome State Fault Refusal :=
  .next ((s.aluPlace .cp (.reg .a)).cycles 4)

/-- `ADD A,n` (R193). -/
def execAddAN (n : Byte) (s : State) : Host.Outcome State Fault Refusal :=
  .next ((s.alu .add n).cycles 8)

/-- `ADC A,n` (R196). -/
def execAdcAN (n : Byte) (s : State) : Host.Outcome State Fault Refusal :=
  .next ((s.alu .adc n).cycles 8)

/-- `SUB n` (R199). -/
def execSubN (n : Byte) (s : State) : Host.Outcome State Fault Refusal :=
  .next ((s.alu .sub n).cycles 8)

/-- `SBC A,n` (R202). -/
def execSbcAN (n : Byte) (s : State) : Host.Outcome State Fault Refusal :=
  .next ((s.alu .sbc n).cycles 8)

/-- `AND n` (R205). -/
def execAndN (n : Byte) (s : State) : Host.Outcome State Fault Refusal :=
  .next ((s.alu .and n).cycles 8)

/-- `XOR n` (R208). -/
def execXorN (n : Byte) (s : State) : Host.Outcome State Fault Refusal :=
  .next ((s.alu .xor n).cycles 8)

/-- `OR n` (R211). -/
def execOrN (n : Byte) (s : State) : Host.Outcome State Fault Refusal :=
  .next ((s.alu .or n).cycles 8)

/-- `CP n` (R214). -/
def execCpN (n : Byte) (s : State) : Host.Outcome State Fault Refusal :=
  .next ((s.alu .cp n).cycles 8)

end Sys2Proof.Machine
end

