-- ==== Sys2Proof/Machine/Control.lean ====
section
/-! DEFINITION. The meanings of 41_control_misc.md: NOP, STOP, HALT, DI, EI, the prefix 0xCB and the unrecognized
opcodes. Each meaning is the rule's Operation and cycle count; the state it is given is the one after the fetch, `PC
= pc0 + length` (R13, R26). None of them writes a flag. -/

namespace Sys2Proof.Machine

/-- `NOP` (R120). -/
def execNop (s : State) : Host.Outcome State Fault Refusal :=
  .next (s.cycles 4)

/-- `STOP` (R121). -/
def execStop (s : State) : Host.Outcome State Fault Refusal :=
  .next ((s.setMode .stopped).cycles 4)

/-- `HALT` (R122). -/
def execHalt (s : State) : Host.Outcome State Fault Refusal :=
  .next ((s.setMode .halted).cycles 4)

/-- `PREFIX CB` (R125). -/
def execPrefixCb (op2 : Byte) (s : State) : Host.Outcome State Fault Refusal :=
  .next (s.extended op2)

/-- The unrecognized opcodes (R126). -/
def execIllegal (op : Byte) (s : State) : Host.Outcome State Fault Refusal :=
  .next (s.raiseDecodeFault op (s.pc - 1))

/-- `DI` (R123). -/
def execDi (s : State) : Host.Outcome State Fault Refusal :=
  .next (s.disableInterrupts.cycles 4)

/-- `EI` (R124). -/
def execEi (s : State) : Host.Outcome State Fault Refusal :=
  .next (s.enableInterrupts.cycles 4)

end Sys2Proof.Machine
end

