-- ==== Sys2Proof/Machine/Load16.lean ====
section
/-! DEFINITION. The meanings of 43_load16_stack.md: 16-bit immediate loads, the transfers of SP, PUSH and POP. SP
wraps and nothing faults (R170). -/

namespace Sys2Proof.Machine

/-- `HL <- sp_plus_e(e)`, SP unchanged (R174). -/
def State.loadHlSpRel (s : State) (e : Byte) : State :=
  let r := spPlusE s.cfg.flag16Mode s.sp e s.flags
  (s.setFlags r.flags).setHl r.res


/-- `LD BC,nn` (R171). -/
def execLdBcNn (nn : Word) (s : State) : Host.Outcome State Fault Refusal :=
  .next ((s.setPair .bc nn).cycles 12)

/-- `LD (nn),SP` (R172). -/
def execLdAtNnSp (nn : Word) (s : State) : Host.Outcome State Fault Refusal :=
  .next ((s.write16 nn s.sp).cycles 20)

/-- `LD DE,nn` (R171). -/
def execLdDeNn (nn : Word) (s : State) : Host.Outcome State Fault Refusal :=
  .next ((s.setPair .de nn).cycles 12)

/-- `LD HL,nn` (R171). -/
def execLdHlNn (nn : Word) (s : State) : Host.Outcome State Fault Refusal :=
  .next ((s.setPair .hl nn).cycles 12)

/-- `LD SP,nn` (R171). -/
def execLdSpNn (nn : Word) (s : State) : Host.Outcome State Fault Refusal :=
  .next ((s.setPair .sp nn).cycles 12)

/-- `POP BC` (R177). -/
def execPopBc (s : State) : Host.Outcome State Fault Refusal :=
  .next ((s.pop16.2.setStackPair .bc s.pop16.1).cycles 12)

/-- `PUSH BC` (R175). -/
def execPushBc (s : State) : Host.Outcome State Fault Refusal :=
  .next ((s.push16 (s.stackPair .bc)).cycles 16)

/-- `POP DE` (R177). -/
def execPopDe (s : State) : Host.Outcome State Fault Refusal :=
  .next ((s.pop16.2.setStackPair .de s.pop16.1).cycles 12)

/-- `PUSH DE` (R175). -/
def execPushDe (s : State) : Host.Outcome State Fault Refusal :=
  .next ((s.push16 (s.stackPair .de)).cycles 16)

/-- `POP HL` (R177). -/
def execPopHl (s : State) : Host.Outcome State Fault Refusal :=
  .next ((s.pop16.2.setStackPair .hl s.pop16.1).cycles 12)

/-- `PUSH HL` (R175). -/
def execPushHl (s : State) : Host.Outcome State Fault Refusal :=
  .next ((s.push16 (s.stackPair .hl)).cycles 16)

/-- `POP AF` (R178). -/
def execPopAf (s : State) : Host.Outcome State Fault Refusal :=
  .next ((s.pop16.2.setStackPair .af s.pop16.1).cycles 12)

/-- `PUSH AF` (R176). -/
def execPushAf (s : State) : Host.Outcome State Fault Refusal :=
  .next ((s.push16 s.af).cycles 16)

/-- `LD HL,SP+e` (R174). -/
def execLdHlSpRel (e : Byte) (s : State) : Host.Outcome State Fault Refusal :=
  .next ((s.loadHlSpRel e).cycles 12)

/-- `LD SP,HL` (R173). -/
def execLdSpHl (s : State) : Host.Outcome State Fault Refusal :=
  .next ((s.setSp s.hl).cycles 8)

end Sys2Proof.Machine
end

