-- ==== Sys2Proof/Machine/Load8.lean ====
section
/-! DEFINITION. The meanings of 42_load8.md: every 8-bit transfer between registers, immediates and memory. The byte
is copied unchanged and no flag is written (R140); the address comes from the registers before any write of the
instruction. -/

namespace Sys2Proof.Machine

/-- `LD (BC),A` (R148). -/
def execLdAtBcA (s : State) : Host.Outcome State Fault Refusal :=
  .next ((s.store s.bc s.a).cycles 8)

/-- `LD B,n` (R142). -/
def execLdBN (n : Byte) (s : State) : Host.Outcome State Fault Refusal :=
  .next ((s.setReg .b n).cycles 8)

/-- `LD A,(BC)` (R146). -/
def execLdAAtBc (s : State) : Host.Outcome State Fault Refusal :=
  .next ((s.load .a s.bc).cycles 8)

/-- `LD C,n` (R142). -/
def execLdCN (n : Byte) (s : State) : Host.Outcome State Fault Refusal :=
  .next ((s.setReg .c n).cycles 8)

/-- `LD (DE),A` (R149). -/
def execLdAtDeA (s : State) : Host.Outcome State Fault Refusal :=
  .next ((s.store s.de s.a).cycles 8)

/-- `LD D,n` (R142). -/
def execLdDN (n : Byte) (s : State) : Host.Outcome State Fault Refusal :=
  .next ((s.setReg .d n).cycles 8)

/-- `LD A,(DE)` (R147). -/
def execLdAAtDe (s : State) : Host.Outcome State Fault Refusal :=
  .next ((s.load .a s.de).cycles 8)

/-- `LD E,n` (R142). -/
def execLdEN (n : Byte) (s : State) : Host.Outcome State Fault Refusal :=
  .next ((s.setReg .e n).cycles 8)

/-- `LD (HL+),A` (R156). -/
def execLdAtHlIncA (s : State) : Host.Outcome State Fault Refusal :=
  .next (((s.store s.hl s.a).stepHl 1).cycles 8)

/-- `LD H,n` (R142). -/
def execLdHN (n : Byte) (s : State) : Host.Outcome State Fault Refusal :=
  .next ((s.setReg .h n).cycles 8)

/-- `LD A,(HL+)` (R158). -/
def execLdAAtHlInc (s : State) : Host.Outcome State Fault Refusal :=
  .next (((s.load .a s.hl).stepHl 1).cycles 8)

/-- `LD L,n` (R142). -/
def execLdLN (n : Byte) (s : State) : Host.Outcome State Fault Refusal :=
  .next ((s.setReg .l n).cycles 8)

/-- `LD (HL-),A` (R157). -/
def execLdAtHlDecA (s : State) : Host.Outcome State Fault Refusal :=
  .next (((s.store s.hl s.a).stepHl (-1)).cycles 8)

/-- `LD (HL),n` (R145). -/
def execLdAtHlN (n : Byte) (s : State) : Host.Outcome State Fault Refusal :=
  .next ((s.store s.hl n).cycles 12)

/-- `LD A,(HL-)` (R159). -/
def execLdAAtHlDec (s : State) : Host.Outcome State Fault Refusal :=
  .next (((s.load .a s.hl).stepHl (-1)).cycles 8)

/-- `LD A,n` (R142). -/
def execLdAN (n : Byte) (s : State) : Host.Outcome State Fault Refusal :=
  .next ((s.setReg .a n).cycles 8)

/-- `LD B,B` (R141). -/
def execLdBB (s : State) : Host.Outcome State Fault Refusal :=
  .next ((s.setReg .b (s.reg .b)).cycles 4)

/-- `LD B,C` (R141). -/
def execLdBC (s : State) : Host.Outcome State Fault Refusal :=
  .next ((s.setReg .b (s.reg .c)).cycles 4)

/-- `LD B,D` (R141). -/
def execLdBD (s : State) : Host.Outcome State Fault Refusal :=
  .next ((s.setReg .b (s.reg .d)).cycles 4)

/-- `LD B,E` (R141). -/
def execLdBE (s : State) : Host.Outcome State Fault Refusal :=
  .next ((s.setReg .b (s.reg .e)).cycles 4)

/-- `LD B,H` (R141). -/
def execLdBH (s : State) : Host.Outcome State Fault Refusal :=
  .next ((s.setReg .b (s.reg .h)).cycles 4)

/-- `LD B,L` (R141). -/
def execLdBL (s : State) : Host.Outcome State Fault Refusal :=
  .next ((s.setReg .b (s.reg .l)).cycles 4)

/-- `LD B,(HL)` (R143). -/
def execLdBAtHl (s : State) : Host.Outcome State Fault Refusal :=
  .next ((s.load .b s.hl).cycles 8)

/-- `LD B,A` (R141). -/
def execLdBA (s : State) : Host.Outcome State Fault Refusal :=
  .next ((s.setReg .b (s.reg .a)).cycles 4)

/-- `LD C,B` (R141). -/
def execLdCB (s : State) : Host.Outcome State Fault Refusal :=
  .next ((s.setReg .c (s.reg .b)).cycles 4)

/-- `LD C,C` (R141). -/
def execLdCC (s : State) : Host.Outcome State Fault Refusal :=
  .next ((s.setReg .c (s.reg .c)).cycles 4)

/-- `LD C,D` (R141). -/
def execLdCD (s : State) : Host.Outcome State Fault Refusal :=
  .next ((s.setReg .c (s.reg .d)).cycles 4)

/-- `LD C,E` (R141). -/
def execLdCE (s : State) : Host.Outcome State Fault Refusal :=
  .next ((s.setReg .c (s.reg .e)).cycles 4)

/-- `LD C,H` (R141). -/
def execLdCH (s : State) : Host.Outcome State Fault Refusal :=
  .next ((s.setReg .c (s.reg .h)).cycles 4)

/-- `LD C,L` (R141). -/
def execLdCL (s : State) : Host.Outcome State Fault Refusal :=
  .next ((s.setReg .c (s.reg .l)).cycles 4)

/-- `LD C,(HL)` (R143). -/
def execLdCAtHl (s : State) : Host.Outcome State Fault Refusal :=
  .next ((s.load .c s.hl).cycles 8)

/-- `LD C,A` (R141). -/
def execLdCA (s : State) : Host.Outcome State Fault Refusal :=
  .next ((s.setReg .c (s.reg .a)).cycles 4)

/-- `LD D,B` (R141). -/
def execLdDB (s : State) : Host.Outcome State Fault Refusal :=
  .next ((s.setReg .d (s.reg .b)).cycles 4)

/-- `LD D,C` (R141). -/
def execLdDC (s : State) : Host.Outcome State Fault Refusal :=
  .next ((s.setReg .d (s.reg .c)).cycles 4)

/-- `LD D,D` (R141). -/
def execLdDD (s : State) : Host.Outcome State Fault Refusal :=
  .next ((s.setReg .d (s.reg .d)).cycles 4)

/-- `LD D,E` (R141). -/
def execLdDE (s : State) : Host.Outcome State Fault Refusal :=
  .next ((s.setReg .d (s.reg .e)).cycles 4)

/-- `LD D,H` (R141). -/
def execLdDH (s : State) : Host.Outcome State Fault Refusal :=
  .next ((s.setReg .d (s.reg .h)).cycles 4)

/-- `LD D,L` (R141). -/
def execLdDL (s : State) : Host.Outcome State Fault Refusal :=
  .next ((s.setReg .d (s.reg .l)).cycles 4)

/-- `LD D,(HL)` (R143). -/
def execLdDAtHl (s : State) : Host.Outcome State Fault Refusal :=
  .next ((s.load .d s.hl).cycles 8)

/-- `LD D,A` (R141). -/
def execLdDA (s : State) : Host.Outcome State Fault Refusal :=
  .next ((s.setReg .d (s.reg .a)).cycles 4)

/-- `LD E,B` (R141). -/
def execLdEB (s : State) : Host.Outcome State Fault Refusal :=
  .next ((s.setReg .e (s.reg .b)).cycles 4)

/-- `LD E,C` (R141). -/
def execLdEC (s : State) : Host.Outcome State Fault Refusal :=
  .next ((s.setReg .e (s.reg .c)).cycles 4)

/-- `LD E,D` (R141). -/
def execLdED (s : State) : Host.Outcome State Fault Refusal :=
  .next ((s.setReg .e (s.reg .d)).cycles 4)

/-- `LD E,E` (R141). -/
def execLdEE (s : State) : Host.Outcome State Fault Refusal :=
  .next ((s.setReg .e (s.reg .e)).cycles 4)

/-- `LD E,H` (R141). -/
def execLdEH (s : State) : Host.Outcome State Fault Refusal :=
  .next ((s.setReg .e (s.reg .h)).cycles 4)

/-- `LD E,L` (R141). -/
def execLdEL (s : State) : Host.Outcome State Fault Refusal :=
  .next ((s.setReg .e (s.reg .l)).cycles 4)

/-- `LD E,(HL)` (R143). -/
def execLdEAtHl (s : State) : Host.Outcome State Fault Refusal :=
  .next ((s.load .e s.hl).cycles 8)

/-- `LD E,A` (R141). -/
def execLdEA (s : State) : Host.Outcome State Fault Refusal :=
  .next ((s.setReg .e (s.reg .a)).cycles 4)

/-- `LD H,B` (R141). -/
def execLdHB (s : State) : Host.Outcome State Fault Refusal :=
  .next ((s.setReg .h (s.reg .b)).cycles 4)

/-- `LD H,C` (R141). -/
def execLdHC (s : State) : Host.Outcome State Fault Refusal :=
  .next ((s.setReg .h (s.reg .c)).cycles 4)

/-- `LD H,D` (R141). -/
def execLdHD (s : State) : Host.Outcome State Fault Refusal :=
  .next ((s.setReg .h (s.reg .d)).cycles 4)

/-- `LD H,E` (R141). -/
def execLdHE (s : State) : Host.Outcome State Fault Refusal :=
  .next ((s.setReg .h (s.reg .e)).cycles 4)

/-- `LD H,H` (R141). -/
def execLdHH (s : State) : Host.Outcome State Fault Refusal :=
  .next ((s.setReg .h (s.reg .h)).cycles 4)

/-- `LD H,L` (R141). -/
def execLdHL (s : State) : Host.Outcome State Fault Refusal :=
  .next ((s.setReg .h (s.reg .l)).cycles 4)

/-- `LD H,(HL)` (R143). -/
def execLdHAtHl (s : State) : Host.Outcome State Fault Refusal :=
  .next ((s.load .h s.hl).cycles 8)

/-- `LD H,A` (R141). -/
def execLdHA (s : State) : Host.Outcome State Fault Refusal :=
  .next ((s.setReg .h (s.reg .a)).cycles 4)

/-- `LD L,B` (R141). -/
def execLdLB (s : State) : Host.Outcome State Fault Refusal :=
  .next ((s.setReg .l (s.reg .b)).cycles 4)

/-- `LD L,C` (R141). -/
def execLdLC (s : State) : Host.Outcome State Fault Refusal :=
  .next ((s.setReg .l (s.reg .c)).cycles 4)

/-- `LD L,D` (R141). -/
def execLdLD (s : State) : Host.Outcome State Fault Refusal :=
  .next ((s.setReg .l (s.reg .d)).cycles 4)

/-- `LD L,E` (R141). -/
def execLdLE (s : State) : Host.Outcome State Fault Refusal :=
  .next ((s.setReg .l (s.reg .e)).cycles 4)

/-- `LD L,H` (R141). -/
def execLdLH (s : State) : Host.Outcome State Fault Refusal :=
  .next ((s.setReg .l (s.reg .h)).cycles 4)

/-- `LD L,L` (R141). -/
def execLdLL (s : State) : Host.Outcome State Fault Refusal :=
  .next ((s.setReg .l (s.reg .l)).cycles 4)

/-- `LD L,(HL)` (R143). -/
def execLdLAtHl (s : State) : Host.Outcome State Fault Refusal :=
  .next ((s.load .l s.hl).cycles 8)

/-- `LD L,A` (R141). -/
def execLdLA (s : State) : Host.Outcome State Fault Refusal :=
  .next ((s.setReg .l (s.reg .a)).cycles 4)

/-- `LD (HL),B` (R144). -/
def execLdAtHlB (s : State) : Host.Outcome State Fault Refusal :=
  .next ((s.store s.hl (s.reg .b)).cycles 8)

/-- `LD (HL),C` (R144). -/
def execLdAtHlC (s : State) : Host.Outcome State Fault Refusal :=
  .next ((s.store s.hl (s.reg .c)).cycles 8)

/-- `LD (HL),D` (R144). -/
def execLdAtHlD (s : State) : Host.Outcome State Fault Refusal :=
  .next ((s.store s.hl (s.reg .d)).cycles 8)

/-- `LD (HL),E` (R144). -/
def execLdAtHlE (s : State) : Host.Outcome State Fault Refusal :=
  .next ((s.store s.hl (s.reg .e)).cycles 8)

/-- `LD (HL),H` (R144). -/
def execLdAtHlH (s : State) : Host.Outcome State Fault Refusal :=
  .next ((s.store s.hl (s.reg .h)).cycles 8)

/-- `LD (HL),L` (R144). -/
def execLdAtHlL (s : State) : Host.Outcome State Fault Refusal :=
  .next ((s.store s.hl (s.reg .l)).cycles 8)

/-- `LD (HL),A` (R144). -/
def execLdAtHlA (s : State) : Host.Outcome State Fault Refusal :=
  .next ((s.store s.hl (s.reg .a)).cycles 8)

/-- `LD A,B` (R141). -/
def execLdAB (s : State) : Host.Outcome State Fault Refusal :=
  .next ((s.setReg .a (s.reg .b)).cycles 4)

/-- `LD A,C` (R141). -/
def execLdAC (s : State) : Host.Outcome State Fault Refusal :=
  .next ((s.setReg .a (s.reg .c)).cycles 4)

/-- `LD A,D` (R141). -/
def execLdAD (s : State) : Host.Outcome State Fault Refusal :=
  .next ((s.setReg .a (s.reg .d)).cycles 4)

/-- `LD A,E` (R141). -/
def execLdAE (s : State) : Host.Outcome State Fault Refusal :=
  .next ((s.setReg .a (s.reg .e)).cycles 4)

/-- `LD A,H` (R141). -/
def execLdAH (s : State) : Host.Outcome State Fault Refusal :=
  .next ((s.setReg .a (s.reg .h)).cycles 4)

/-- `LD A,L` (R141). -/
def execLdAL (s : State) : Host.Outcome State Fault Refusal :=
  .next ((s.setReg .a (s.reg .l)).cycles 4)

/-- `LD A,(HL)` (R143). -/
def execLdAAtHl (s : State) : Host.Outcome State Fault Refusal :=
  .next ((s.load .a s.hl).cycles 8)

/-- `LD A,A` (R141). -/
def execLdAA (s : State) : Host.Outcome State Fault Refusal :=
  .next ((s.setReg .a (s.reg .a)).cycles 4)

/-- `LDH (n),A` (R153). -/
def execLdhAtNA (n : Byte) (s : State) : Host.Outcome State Fault Refusal :=
  .next ((s.store (highPage n) s.a).cycles 12)

/-- `LD (C),A` (R155). -/
def execLdAtCA (s : State) : Host.Outcome State Fault Refusal :=
  .next ((s.store (highPage s.c) s.a).cycles 8)

/-- `LD (nn),A` (R151). -/
def execLdAtNnA (nn : Word) (s : State) : Host.Outcome State Fault Refusal :=
  .next ((s.store nn s.a).cycles 16)

/-- `LDH A,(n)` (R152). -/
def execLdhAAtN (n : Byte) (s : State) : Host.Outcome State Fault Refusal :=
  .next ((s.load .a (highPage n)).cycles 12)

/-- `LD A,(C)` (R154). -/
def execLdAAtC (s : State) : Host.Outcome State Fault Refusal :=
  .next ((s.load .a (highPage s.c)).cycles 8)

/-- `LD A,(nn)` (R150). -/
def execLdAAtNn (nn : Word) (s : State) : Host.Outcome State Fault Refusal :=
  .next ((s.load .a nn).cycles 16)

end Sys2Proof.Machine
end

