-- ==== Sys2Proof/Machine/RotateBit.lean ====
section
/-! DEFINITION. The meanings of 46_rotate_shift_bit.md: the accumulator rotates, and the whole extended table
(R244): eight rotates and shifts, BIT, RES and SET, each on the eight operands of R85. Cycle counts include the
prefix byte. -/

namespace Sys2Proof.Machine

/-- `RLCA` (R240). -/
def execRlca (s : State) : Host.Outcome State Fault Refusal :=
  .next ((s.onA (rotA .rlc)).cycles 4)

/-- `RRCA` (R241). -/
def execRrca (s : State) : Host.Outcome State Fault Refusal :=
  .next ((s.onA (rotA .rrc)).cycles 4)

/-- `RLA` (R242). -/
def execRla (s : State) : Host.Outcome State Fault Refusal :=
  .next ((s.onA (rotA .rl)).cycles 4)

/-- `RRA` (R243). -/
def execRra (s : State) : Host.Outcome State Fault Refusal :=
  .next ((s.onA (rotA .rr)).cycles 4)

/-- `RLC B` (R245). -/
def execRlcB (s : State) : Host.Outcome State Fault Refusal :=
  .next ((s.modify8 (.reg .b) (rot8 .rlc)).cycles 8)

/-- `RLC C` (R245). -/
def execRlcC (s : State) : Host.Outcome State Fault Refusal :=
  .next ((s.modify8 (.reg .c) (rot8 .rlc)).cycles 8)

/-- `RLC D` (R245). -/
def execRlcD (s : State) : Host.Outcome State Fault Refusal :=
  .next ((s.modify8 (.reg .d) (rot8 .rlc)).cycles 8)

/-- `RLC E` (R245). -/
def execRlcE (s : State) : Host.Outcome State Fault Refusal :=
  .next ((s.modify8 (.reg .e) (rot8 .rlc)).cycles 8)

/-- `RLC H` (R245). -/
def execRlcH (s : State) : Host.Outcome State Fault Refusal :=
  .next ((s.modify8 (.reg .h) (rot8 .rlc)).cycles 8)

/-- `RLC L` (R245). -/
def execRlcL (s : State) : Host.Outcome State Fault Refusal :=
  .next ((s.modify8 (.reg .l) (rot8 .rlc)).cycles 8)

/-- `RLC (HL)` (R246). -/
def execRlcAtHl (s : State) : Host.Outcome State Fault Refusal :=
  .next ((s.modify8 .atHl (rot8 .rlc)).cycles 16)

/-- `RLC A` (R245). -/
def execRlcA (s : State) : Host.Outcome State Fault Refusal :=
  .next ((s.modify8 (.reg .a) (rot8 .rlc)).cycles 8)

/-- `RRC B` (R247). -/
def execRrcB (s : State) : Host.Outcome State Fault Refusal :=
  .next ((s.modify8 (.reg .b) (rot8 .rrc)).cycles 8)

/-- `RRC C` (R247). -/
def execRrcC (s : State) : Host.Outcome State Fault Refusal :=
  .next ((s.modify8 (.reg .c) (rot8 .rrc)).cycles 8)

/-- `RRC D` (R247). -/
def execRrcD (s : State) : Host.Outcome State Fault Refusal :=
  .next ((s.modify8 (.reg .d) (rot8 .rrc)).cycles 8)

/-- `RRC E` (R247). -/
def execRrcE (s : State) : Host.Outcome State Fault Refusal :=
  .next ((s.modify8 (.reg .e) (rot8 .rrc)).cycles 8)

/-- `RRC H` (R247). -/
def execRrcH (s : State) : Host.Outcome State Fault Refusal :=
  .next ((s.modify8 (.reg .h) (rot8 .rrc)).cycles 8)

/-- `RRC L` (R247). -/
def execRrcL (s : State) : Host.Outcome State Fault Refusal :=
  .next ((s.modify8 (.reg .l) (rot8 .rrc)).cycles 8)

/-- `RRC (HL)` (R248). -/
def execRrcAtHl (s : State) : Host.Outcome State Fault Refusal :=
  .next ((s.modify8 .atHl (rot8 .rrc)).cycles 16)

/-- `RRC A` (R247). -/
def execRrcA (s : State) : Host.Outcome State Fault Refusal :=
  .next ((s.modify8 (.reg .a) (rot8 .rrc)).cycles 8)

/-- `RL B` (R249). -/
def execRlB (s : State) : Host.Outcome State Fault Refusal :=
  .next ((s.modify8 (.reg .b) (rot8 .rl)).cycles 8)

/-- `RL C` (R249). -/
def execRlC (s : State) : Host.Outcome State Fault Refusal :=
  .next ((s.modify8 (.reg .c) (rot8 .rl)).cycles 8)

/-- `RL D` (R249). -/
def execRlD (s : State) : Host.Outcome State Fault Refusal :=
  .next ((s.modify8 (.reg .d) (rot8 .rl)).cycles 8)

/-- `RL E` (R249). -/
def execRlE (s : State) : Host.Outcome State Fault Refusal :=
  .next ((s.modify8 (.reg .e) (rot8 .rl)).cycles 8)

/-- `RL H` (R249). -/
def execRlH (s : State) : Host.Outcome State Fault Refusal :=
  .next ((s.modify8 (.reg .h) (rot8 .rl)).cycles 8)

/-- `RL L` (R249). -/
def execRlL (s : State) : Host.Outcome State Fault Refusal :=
  .next ((s.modify8 (.reg .l) (rot8 .rl)).cycles 8)

/-- `RL (HL)` (R250). -/
def execRlAtHl (s : State) : Host.Outcome State Fault Refusal :=
  .next ((s.modify8 .atHl (rot8 .rl)).cycles 16)

/-- `RL A` (R249). -/
def execRlA (s : State) : Host.Outcome State Fault Refusal :=
  .next ((s.modify8 (.reg .a) (rot8 .rl)).cycles 8)

/-- `RR B` (R251). -/
def execRrB (s : State) : Host.Outcome State Fault Refusal :=
  .next ((s.modify8 (.reg .b) (rot8 .rr)).cycles 8)

/-- `RR C` (R251). -/
def execRrC (s : State) : Host.Outcome State Fault Refusal :=
  .next ((s.modify8 (.reg .c) (rot8 .rr)).cycles 8)

/-- `RR D` (R251). -/
def execRrD (s : State) : Host.Outcome State Fault Refusal :=
  .next ((s.modify8 (.reg .d) (rot8 .rr)).cycles 8)

/-- `RR E` (R251). -/
def execRrE (s : State) : Host.Outcome State Fault Refusal :=
  .next ((s.modify8 (.reg .e) (rot8 .rr)).cycles 8)

/-- `RR H` (R251). -/
def execRrH (s : State) : Host.Outcome State Fault Refusal :=
  .next ((s.modify8 (.reg .h) (rot8 .rr)).cycles 8)

/-- `RR L` (R251). -/
def execRrL (s : State) : Host.Outcome State Fault Refusal :=
  .next ((s.modify8 (.reg .l) (rot8 .rr)).cycles 8)

/-- `RR (HL)` (R252). -/
def execRrAtHl (s : State) : Host.Outcome State Fault Refusal :=
  .next ((s.modify8 .atHl (rot8 .rr)).cycles 16)

/-- `RR A` (R251). -/
def execRrA (s : State) : Host.Outcome State Fault Refusal :=
  .next ((s.modify8 (.reg .a) (rot8 .rr)).cycles 8)

/-- `SLA B` (R253). -/
def execSlaB (s : State) : Host.Outcome State Fault Refusal :=
  .next ((s.modify8 (.reg .b) (rot8 .sla)).cycles 8)

/-- `SLA C` (R253). -/
def execSlaC (s : State) : Host.Outcome State Fault Refusal :=
  .next ((s.modify8 (.reg .c) (rot8 .sla)).cycles 8)

/-- `SLA D` (R253). -/
def execSlaD (s : State) : Host.Outcome State Fault Refusal :=
  .next ((s.modify8 (.reg .d) (rot8 .sla)).cycles 8)

/-- `SLA E` (R253). -/
def execSlaE (s : State) : Host.Outcome State Fault Refusal :=
  .next ((s.modify8 (.reg .e) (rot8 .sla)).cycles 8)

/-- `SLA H` (R253). -/
def execSlaH (s : State) : Host.Outcome State Fault Refusal :=
  .next ((s.modify8 (.reg .h) (rot8 .sla)).cycles 8)

/-- `SLA L` (R253). -/
def execSlaL (s : State) : Host.Outcome State Fault Refusal :=
  .next ((s.modify8 (.reg .l) (rot8 .sla)).cycles 8)

/-- `SLA (HL)` (R254). -/
def execSlaAtHl (s : State) : Host.Outcome State Fault Refusal :=
  .next ((s.modify8 .atHl (rot8 .sla)).cycles 16)

/-- `SLA A` (R253). -/
def execSlaA (s : State) : Host.Outcome State Fault Refusal :=
  .next ((s.modify8 (.reg .a) (rot8 .sla)).cycles 8)

/-- `SRA B` (R255). -/
def execSraB (s : State) : Host.Outcome State Fault Refusal :=
  .next ((s.modify8 (.reg .b) (rot8 .sra)).cycles 8)

/-- `SRA C` (R255). -/
def execSraC (s : State) : Host.Outcome State Fault Refusal :=
  .next ((s.modify8 (.reg .c) (rot8 .sra)).cycles 8)

/-- `SRA D` (R255). -/
def execSraD (s : State) : Host.Outcome State Fault Refusal :=
  .next ((s.modify8 (.reg .d) (rot8 .sra)).cycles 8)

/-- `SRA E` (R255). -/
def execSraE (s : State) : Host.Outcome State Fault Refusal :=
  .next ((s.modify8 (.reg .e) (rot8 .sra)).cycles 8)

/-- `SRA H` (R255). -/
def execSraH (s : State) : Host.Outcome State Fault Refusal :=
  .next ((s.modify8 (.reg .h) (rot8 .sra)).cycles 8)

/-- `SRA L` (R255). -/
def execSraL (s : State) : Host.Outcome State Fault Refusal :=
  .next ((s.modify8 (.reg .l) (rot8 .sra)).cycles 8)

/-- `SRA (HL)` (R256). -/
def execSraAtHl (s : State) : Host.Outcome State Fault Refusal :=
  .next ((s.modify8 .atHl (rot8 .sra)).cycles 16)

/-- `SRA A` (R255). -/
def execSraA (s : State) : Host.Outcome State Fault Refusal :=
  .next ((s.modify8 (.reg .a) (rot8 .sra)).cycles 8)

/-- `SWAP B` (R257). -/
def execSwapB (s : State) : Host.Outcome State Fault Refusal :=
  .next ((s.modify8 (.reg .b) (rot8 .swap)).cycles 8)

/-- `SWAP C` (R257). -/
def execSwapC (s : State) : Host.Outcome State Fault Refusal :=
  .next ((s.modify8 (.reg .c) (rot8 .swap)).cycles 8)

/-- `SWAP D` (R257). -/
def execSwapD (s : State) : Host.Outcome State Fault Refusal :=
  .next ((s.modify8 (.reg .d) (rot8 .swap)).cycles 8)

/-- `SWAP E` (R257). -/
def execSwapE (s : State) : Host.Outcome State Fault Refusal :=
  .next ((s.modify8 (.reg .e) (rot8 .swap)).cycles 8)

/-- `SWAP H` (R257). -/
def execSwapH (s : State) : Host.Outcome State Fault Refusal :=
  .next ((s.modify8 (.reg .h) (rot8 .swap)).cycles 8)

/-- `SWAP L` (R257). -/
def execSwapL (s : State) : Host.Outcome State Fault Refusal :=
  .next ((s.modify8 (.reg .l) (rot8 .swap)).cycles 8)

/-- `SWAP (HL)` (R258). -/
def execSwapAtHl (s : State) : Host.Outcome State Fault Refusal :=
  .next ((s.modify8 .atHl (rot8 .swap)).cycles 16)

/-- `SWAP A` (R257). -/
def execSwapA (s : State) : Host.Outcome State Fault Refusal :=
  .next ((s.modify8 (.reg .a) (rot8 .swap)).cycles 8)

/-- `SRL B` (R259). -/
def execSrlB (s : State) : Host.Outcome State Fault Refusal :=
  .next ((s.modify8 (.reg .b) (rot8 .srl)).cycles 8)

/-- `SRL C` (R259). -/
def execSrlC (s : State) : Host.Outcome State Fault Refusal :=
  .next ((s.modify8 (.reg .c) (rot8 .srl)).cycles 8)

/-- `SRL D` (R259). -/
def execSrlD (s : State) : Host.Outcome State Fault Refusal :=
  .next ((s.modify8 (.reg .d) (rot8 .srl)).cycles 8)

/-- `SRL E` (R259). -/
def execSrlE (s : State) : Host.Outcome State Fault Refusal :=
  .next ((s.modify8 (.reg .e) (rot8 .srl)).cycles 8)

/-- `SRL H` (R259). -/
def execSrlH (s : State) : Host.Outcome State Fault Refusal :=
  .next ((s.modify8 (.reg .h) (rot8 .srl)).cycles 8)

/-- `SRL L` (R259). -/
def execSrlL (s : State) : Host.Outcome State Fault Refusal :=
  .next ((s.modify8 (.reg .l) (rot8 .srl)).cycles 8)

/-- `SRL (HL)` (R260). -/
def execSrlAtHl (s : State) : Host.Outcome State Fault Refusal :=
  .next ((s.modify8 .atHl (rot8 .srl)).cycles 16)

/-- `SRL A` (R259). -/
def execSrlA (s : State) : Host.Outcome State Fault Refusal :=
  .next ((s.modify8 (.reg .a) (rot8 .srl)).cycles 8)

/-- `BIT 0,B` (R261). -/
def execBit0B (s : State) : Host.Outcome State Fault Refusal :=
  .next ((s.bitTest 0 (.reg .b)).cycles 8)

/-- `BIT 0,C` (R261). -/
def execBit0C (s : State) : Host.Outcome State Fault Refusal :=
  .next ((s.bitTest 0 (.reg .c)).cycles 8)

/-- `BIT 0,D` (R261). -/
def execBit0D (s : State) : Host.Outcome State Fault Refusal :=
  .next ((s.bitTest 0 (.reg .d)).cycles 8)

/-- `BIT 0,E` (R261). -/
def execBit0E (s : State) : Host.Outcome State Fault Refusal :=
  .next ((s.bitTest 0 (.reg .e)).cycles 8)

/-- `BIT 0,H` (R261). -/
def execBit0H (s : State) : Host.Outcome State Fault Refusal :=
  .next ((s.bitTest 0 (.reg .h)).cycles 8)

/-- `BIT 0,L` (R261). -/
def execBit0L (s : State) : Host.Outcome State Fault Refusal :=
  .next ((s.bitTest 0 (.reg .l)).cycles 8)

/-- `BIT 0,(HL)` (R262). -/
def execBit0AtHl (s : State) : Host.Outcome State Fault Refusal :=
  .next ((s.bitTest 0 .atHl).cycles 12)

/-- `BIT 0,A` (R261). -/
def execBit0A (s : State) : Host.Outcome State Fault Refusal :=
  .next ((s.bitTest 0 (.reg .a)).cycles 8)

/-- `BIT 1,B` (R261). -/
def execBit1B (s : State) : Host.Outcome State Fault Refusal :=
  .next ((s.bitTest 1 (.reg .b)).cycles 8)

/-- `BIT 1,C` (R261). -/
def execBit1C (s : State) : Host.Outcome State Fault Refusal :=
  .next ((s.bitTest 1 (.reg .c)).cycles 8)

/-- `BIT 1,D` (R261). -/
def execBit1D (s : State) : Host.Outcome State Fault Refusal :=
  .next ((s.bitTest 1 (.reg .d)).cycles 8)

/-- `BIT 1,E` (R261). -/
def execBit1E (s : State) : Host.Outcome State Fault Refusal :=
  .next ((s.bitTest 1 (.reg .e)).cycles 8)

/-- `BIT 1,H` (R261). -/
def execBit1H (s : State) : Host.Outcome State Fault Refusal :=
  .next ((s.bitTest 1 (.reg .h)).cycles 8)

/-- `BIT 1,L` (R261). -/
def execBit1L (s : State) : Host.Outcome State Fault Refusal :=
  .next ((s.bitTest 1 (.reg .l)).cycles 8)

/-- `BIT 1,(HL)` (R262). -/
def execBit1AtHl (s : State) : Host.Outcome State Fault Refusal :=
  .next ((s.bitTest 1 .atHl).cycles 12)

/-- `BIT 1,A` (R261). -/
def execBit1A (s : State) : Host.Outcome State Fault Refusal :=
  .next ((s.bitTest 1 (.reg .a)).cycles 8)

/-- `BIT 2,B` (R261). -/
def execBit2B (s : State) : Host.Outcome State Fault Refusal :=
  .next ((s.bitTest 2 (.reg .b)).cycles 8)

/-- `BIT 2,C` (R261). -/
def execBit2C (s : State) : Host.Outcome State Fault Refusal :=
  .next ((s.bitTest 2 (.reg .c)).cycles 8)

/-- `BIT 2,D` (R261). -/
def execBit2D (s : State) : Host.Outcome State Fault Refusal :=
  .next ((s.bitTest 2 (.reg .d)).cycles 8)

/-- `BIT 2,E` (R261). -/
def execBit2E (s : State) : Host.Outcome State Fault Refusal :=
  .next ((s.bitTest 2 (.reg .e)).cycles 8)

/-- `BIT 2,H` (R261). -/
def execBit2H (s : State) : Host.Outcome State Fault Refusal :=
  .next ((s.bitTest 2 (.reg .h)).cycles 8)

/-- `BIT 2,L` (R261). -/
def execBit2L (s : State) : Host.Outcome State Fault Refusal :=
  .next ((s.bitTest 2 (.reg .l)).cycles 8)

/-- `BIT 2,(HL)` (R262). -/
def execBit2AtHl (s : State) : Host.Outcome State Fault Refusal :=
  .next ((s.bitTest 2 .atHl).cycles 12)

/-- `BIT 2,A` (R261). -/
def execBit2A (s : State) : Host.Outcome State Fault Refusal :=
  .next ((s.bitTest 2 (.reg .a)).cycles 8)

/-- `BIT 3,B` (R261). -/
def execBit3B (s : State) : Host.Outcome State Fault Refusal :=
  .next ((s.bitTest 3 (.reg .b)).cycles 8)

/-- `BIT 3,C` (R261). -/
def execBit3C (s : State) : Host.Outcome State Fault Refusal :=
  .next ((s.bitTest 3 (.reg .c)).cycles 8)

/-- `BIT 3,D` (R261). -/
def execBit3D (s : State) : Host.Outcome State Fault Refusal :=
  .next ((s.bitTest 3 (.reg .d)).cycles 8)

/-- `BIT 3,E` (R261). -/
def execBit3E (s : State) : Host.Outcome State Fault Refusal :=
  .next ((s.bitTest 3 (.reg .e)).cycles 8)

/-- `BIT 3,H` (R261). -/
def execBit3H (s : State) : Host.Outcome State Fault Refusal :=
  .next ((s.bitTest 3 (.reg .h)).cycles 8)

/-- `BIT 3,L` (R261). -/
def execBit3L (s : State) : Host.Outcome State Fault Refusal :=
  .next ((s.bitTest 3 (.reg .l)).cycles 8)

/-- `BIT 3,(HL)` (R262). -/
def execBit3AtHl (s : State) : Host.Outcome State Fault Refusal :=
  .next ((s.bitTest 3 .atHl).cycles 12)

/-- `BIT 3,A` (R261). -/
def execBit3A (s : State) : Host.Outcome State Fault Refusal :=
  .next ((s.bitTest 3 (.reg .a)).cycles 8)

/-- `BIT 4,B` (R261). -/
def execBit4B (s : State) : Host.Outcome State Fault Refusal :=
  .next ((s.bitTest 4 (.reg .b)).cycles 8)

/-- `BIT 4,C` (R261). -/
def execBit4C (s : State) : Host.Outcome State Fault Refusal :=
  .next ((s.bitTest 4 (.reg .c)).cycles 8)

/-- `BIT 4,D` (R261). -/
def execBit4D (s : State) : Host.Outcome State Fault Refusal :=
  .next ((s.bitTest 4 (.reg .d)).cycles 8)

/-- `BIT 4,E` (R261). -/
def execBit4E (s : State) : Host.Outcome State Fault Refusal :=
  .next ((s.bitTest 4 (.reg .e)).cycles 8)

/-- `BIT 4,H` (R261). -/
def execBit4H (s : State) : Host.Outcome State Fault Refusal :=
  .next ((s.bitTest 4 (.reg .h)).cycles 8)

/-- `BIT 4,L` (R261). -/
def execBit4L (s : State) : Host.Outcome State Fault Refusal :=
  .next ((s.bitTest 4 (.reg .l)).cycles 8)

/-- `BIT 4,(HL)` (R262). -/
def execBit4AtHl (s : State) : Host.Outcome State Fault Refusal :=
  .next ((s.bitTest 4 .atHl).cycles 12)

/-- `BIT 4,A` (R261). -/
def execBit4A (s : State) : Host.Outcome State Fault Refusal :=
  .next ((s.bitTest 4 (.reg .a)).cycles 8)

/-- `BIT 5,B` (R261). -/
def execBit5B (s : State) : Host.Outcome State Fault Refusal :=
  .next ((s.bitTest 5 (.reg .b)).cycles 8)

/-- `BIT 5,C` (R261). -/
def execBit5C (s : State) : Host.Outcome State Fault Refusal :=
  .next ((s.bitTest 5 (.reg .c)).cycles 8)

/-- `BIT 5,D` (R261). -/
def execBit5D (s : State) : Host.Outcome State Fault Refusal :=
  .next ((s.bitTest 5 (.reg .d)).cycles 8)

/-- `BIT 5,E` (R261). -/
def execBit5E (s : State) : Host.Outcome State Fault Refusal :=
  .next ((s.bitTest 5 (.reg .e)).cycles 8)

/-- `BIT 5,H` (R261). -/
def execBit5H (s : State) : Host.Outcome State Fault Refusal :=
  .next ((s.bitTest 5 (.reg .h)).cycles 8)

/-- `BIT 5,L` (R261). -/
def execBit5L (s : State) : Host.Outcome State Fault Refusal :=
  .next ((s.bitTest 5 (.reg .l)).cycles 8)

/-- `BIT 5,(HL)` (R262). -/
def execBit5AtHl (s : State) : Host.Outcome State Fault Refusal :=
  .next ((s.bitTest 5 .atHl).cycles 12)

/-- `BIT 5,A` (R261). -/
def execBit5A (s : State) : Host.Outcome State Fault Refusal :=
  .next ((s.bitTest 5 (.reg .a)).cycles 8)

/-- `BIT 6,B` (R261). -/
def execBit6B (s : State) : Host.Outcome State Fault Refusal :=
  .next ((s.bitTest 6 (.reg .b)).cycles 8)

/-- `BIT 6,C` (R261). -/
def execBit6C (s : State) : Host.Outcome State Fault Refusal :=
  .next ((s.bitTest 6 (.reg .c)).cycles 8)

/-- `BIT 6,D` (R261). -/
def execBit6D (s : State) : Host.Outcome State Fault Refusal :=
  .next ((s.bitTest 6 (.reg .d)).cycles 8)

/-- `BIT 6,E` (R261). -/
def execBit6E (s : State) : Host.Outcome State Fault Refusal :=
  .next ((s.bitTest 6 (.reg .e)).cycles 8)

/-- `BIT 6,H` (R261). -/
def execBit6H (s : State) : Host.Outcome State Fault Refusal :=
  .next ((s.bitTest 6 (.reg .h)).cycles 8)

/-- `BIT 6,L` (R261). -/
def execBit6L (s : State) : Host.Outcome State Fault Refusal :=
  .next ((s.bitTest 6 (.reg .l)).cycles 8)

/-- `BIT 6,(HL)` (R262). -/
def execBit6AtHl (s : State) : Host.Outcome State Fault Refusal :=
  .next ((s.bitTest 6 .atHl).cycles 12)

/-- `BIT 6,A` (R261). -/
def execBit6A (s : State) : Host.Outcome State Fault Refusal :=
  .next ((s.bitTest 6 (.reg .a)).cycles 8)

/-- `BIT 7,B` (R261). -/
def execBit7B (s : State) : Host.Outcome State Fault Refusal :=
  .next ((s.bitTest 7 (.reg .b)).cycles 8)

/-- `BIT 7,C` (R261). -/
def execBit7C (s : State) : Host.Outcome State Fault Refusal :=
  .next ((s.bitTest 7 (.reg .c)).cycles 8)

/-- `BIT 7,D` (R261). -/
def execBit7D (s : State) : Host.Outcome State Fault Refusal :=
  .next ((s.bitTest 7 (.reg .d)).cycles 8)

/-- `BIT 7,E` (R261). -/
def execBit7E (s : State) : Host.Outcome State Fault Refusal :=
  .next ((s.bitTest 7 (.reg .e)).cycles 8)

/-- `BIT 7,H` (R261). -/
def execBit7H (s : State) : Host.Outcome State Fault Refusal :=
  .next ((s.bitTest 7 (.reg .h)).cycles 8)

/-- `BIT 7,L` (R261). -/
def execBit7L (s : State) : Host.Outcome State Fault Refusal :=
  .next ((s.bitTest 7 (.reg .l)).cycles 8)

/-- `BIT 7,(HL)` (R262). -/
def execBit7AtHl (s : State) : Host.Outcome State Fault Refusal :=
  .next ((s.bitTest 7 .atHl).cycles 12)

/-- `BIT 7,A` (R261). -/
def execBit7A (s : State) : Host.Outcome State Fault Refusal :=
  .next ((s.bitTest 7 (.reg .a)).cycles 8)

/-- `RES 0,B` (R263). -/
def execRes0B (s : State) : Host.Outcome State Fault Refusal :=
  .next ((s.modifyQuiet (.reg .b) (resBit 0)).cycles 8)

/-- `RES 0,C` (R263). -/
def execRes0C (s : State) : Host.Outcome State Fault Refusal :=
  .next ((s.modifyQuiet (.reg .c) (resBit 0)).cycles 8)

/-- `RES 0,D` (R263). -/
def execRes0D (s : State) : Host.Outcome State Fault Refusal :=
  .next ((s.modifyQuiet (.reg .d) (resBit 0)).cycles 8)

/-- `RES 0,E` (R263). -/
def execRes0E (s : State) : Host.Outcome State Fault Refusal :=
  .next ((s.modifyQuiet (.reg .e) (resBit 0)).cycles 8)

/-- `RES 0,H` (R263). -/
def execRes0H (s : State) : Host.Outcome State Fault Refusal :=
  .next ((s.modifyQuiet (.reg .h) (resBit 0)).cycles 8)

/-- `RES 0,L` (R263). -/
def execRes0L (s : State) : Host.Outcome State Fault Refusal :=
  .next ((s.modifyQuiet (.reg .l) (resBit 0)).cycles 8)

/-- `RES 0,(HL)` (R264). -/
def execRes0AtHl (s : State) : Host.Outcome State Fault Refusal :=
  .next ((s.modifyQuiet .atHl (resBit 0)).cycles 16)

/-- `RES 0,A` (R263). -/
def execRes0A (s : State) : Host.Outcome State Fault Refusal :=
  .next ((s.modifyQuiet (.reg .a) (resBit 0)).cycles 8)

/-- `RES 1,B` (R263). -/
def execRes1B (s : State) : Host.Outcome State Fault Refusal :=
  .next ((s.modifyQuiet (.reg .b) (resBit 1)).cycles 8)

/-- `RES 1,C` (R263). -/
def execRes1C (s : State) : Host.Outcome State Fault Refusal :=
  .next ((s.modifyQuiet (.reg .c) (resBit 1)).cycles 8)

/-- `RES 1,D` (R263). -/
def execRes1D (s : State) : Host.Outcome State Fault Refusal :=
  .next ((s.modifyQuiet (.reg .d) (resBit 1)).cycles 8)

/-- `RES 1,E` (R263). -/
def execRes1E (s : State) : Host.Outcome State Fault Refusal :=
  .next ((s.modifyQuiet (.reg .e) (resBit 1)).cycles 8)

/-- `RES 1,H` (R263). -/
def execRes1H (s : State) : Host.Outcome State Fault Refusal :=
  .next ((s.modifyQuiet (.reg .h) (resBit 1)).cycles 8)

/-- `RES 1,L` (R263). -/
def execRes1L (s : State) : Host.Outcome State Fault Refusal :=
  .next ((s.modifyQuiet (.reg .l) (resBit 1)).cycles 8)

/-- `RES 1,(HL)` (R264). -/
def execRes1AtHl (s : State) : Host.Outcome State Fault Refusal :=
  .next ((s.modifyQuiet .atHl (resBit 1)).cycles 16)

/-- `RES 1,A` (R263). -/
def execRes1A (s : State) : Host.Outcome State Fault Refusal :=
  .next ((s.modifyQuiet (.reg .a) (resBit 1)).cycles 8)

/-- `RES 2,B` (R263). -/
def execRes2B (s : State) : Host.Outcome State Fault Refusal :=
  .next ((s.modifyQuiet (.reg .b) (resBit 2)).cycles 8)

/-- `RES 2,C` (R263). -/
def execRes2C (s : State) : Host.Outcome State Fault Refusal :=
  .next ((s.modifyQuiet (.reg .c) (resBit 2)).cycles 8)

/-- `RES 2,D` (R263). -/
def execRes2D (s : State) : Host.Outcome State Fault Refusal :=
  .next ((s.modifyQuiet (.reg .d) (resBit 2)).cycles 8)

/-- `RES 2,E` (R263). -/
def execRes2E (s : State) : Host.Outcome State Fault Refusal :=
  .next ((s.modifyQuiet (.reg .e) (resBit 2)).cycles 8)

/-- `RES 2,H` (R263). -/
def execRes2H (s : State) : Host.Outcome State Fault Refusal :=
  .next ((s.modifyQuiet (.reg .h) (resBit 2)).cycles 8)

/-- `RES 2,L` (R263). -/
def execRes2L (s : State) : Host.Outcome State Fault Refusal :=
  .next ((s.modifyQuiet (.reg .l) (resBit 2)).cycles 8)

/-- `RES 2,(HL)` (R264). -/
def execRes2AtHl (s : State) : Host.Outcome State Fault Refusal :=
  .next ((s.modifyQuiet .atHl (resBit 2)).cycles 16)

/-- `RES 2,A` (R263). -/
def execRes2A (s : State) : Host.Outcome State Fault Refusal :=
  .next ((s.modifyQuiet (.reg .a) (resBit 2)).cycles 8)

/-- `RES 3,B` (R263). -/
def execRes3B (s : State) : Host.Outcome State Fault Refusal :=
  .next ((s.modifyQuiet (.reg .b) (resBit 3)).cycles 8)

/-- `RES 3,C` (R263). -/
def execRes3C (s : State) : Host.Outcome State Fault Refusal :=
  .next ((s.modifyQuiet (.reg .c) (resBit 3)).cycles 8)

/-- `RES 3,D` (R263). -/
def execRes3D (s : State) : Host.Outcome State Fault Refusal :=
  .next ((s.modifyQuiet (.reg .d) (resBit 3)).cycles 8)

/-- `RES 3,E` (R263). -/
def execRes3E (s : State) : Host.Outcome State Fault Refusal :=
  .next ((s.modifyQuiet (.reg .e) (resBit 3)).cycles 8)

/-- `RES 3,H` (R263). -/
def execRes3H (s : State) : Host.Outcome State Fault Refusal :=
  .next ((s.modifyQuiet (.reg .h) (resBit 3)).cycles 8)

/-- `RES 3,L` (R263). -/
def execRes3L (s : State) : Host.Outcome State Fault Refusal :=
  .next ((s.modifyQuiet (.reg .l) (resBit 3)).cycles 8)

/-- `RES 3,(HL)` (R264). -/
def execRes3AtHl (s : State) : Host.Outcome State Fault Refusal :=
  .next ((s.modifyQuiet .atHl (resBit 3)).cycles 16)

/-- `RES 3,A` (R263). -/
def execRes3A (s : State) : Host.Outcome State Fault Refusal :=
  .next ((s.modifyQuiet (.reg .a) (resBit 3)).cycles 8)

/-- `RES 4,B` (R263). -/
def execRes4B (s : State) : Host.Outcome State Fault Refusal :=
  .next ((s.modifyQuiet (.reg .b) (resBit 4)).cycles 8)

/-- `RES 4,C` (R263). -/
def execRes4C (s : State) : Host.Outcome State Fault Refusal :=
  .next ((s.modifyQuiet (.reg .c) (resBit 4)).cycles 8)

/-- `RES 4,D` (R263). -/
def execRes4D (s : State) : Host.Outcome State Fault Refusal :=
  .next ((s.modifyQuiet (.reg .d) (resBit 4)).cycles 8)

/-- `RES 4,E` (R263). -/
def execRes4E (s : State) : Host.Outcome State Fault Refusal :=
  .next ((s.modifyQuiet (.reg .e) (resBit 4)).cycles 8)

/-- `RES 4,H` (R263). -/
def execRes4H (s : State) : Host.Outcome State Fault Refusal :=
  .next ((s.modifyQuiet (.reg .h) (resBit 4)).cycles 8)

/-- `RES 4,L` (R263). -/
def execRes4L (s : State) : Host.Outcome State Fault Refusal :=
  .next ((s.modifyQuiet (.reg .l) (resBit 4)).cycles 8)

/-- `RES 4,(HL)` (R264). -/
def execRes4AtHl (s : State) : Host.Outcome State Fault Refusal :=
  .next ((s.modifyQuiet .atHl (resBit 4)).cycles 16)

/-- `RES 4,A` (R263). -/
def execRes4A (s : State) : Host.Outcome State Fault Refusal :=
  .next ((s.modifyQuiet (.reg .a) (resBit 4)).cycles 8)

/-- `RES 5,B` (R263). -/
def execRes5B (s : State) : Host.Outcome State Fault Refusal :=
  .next ((s.modifyQuiet (.reg .b) (resBit 5)).cycles 8)

/-- `RES 5,C` (R263). -/
def execRes5C (s : State) : Host.Outcome State Fault Refusal :=
  .next ((s.modifyQuiet (.reg .c) (resBit 5)).cycles 8)

/-- `RES 5,D` (R263). -/
def execRes5D (s : State) : Host.Outcome State Fault Refusal :=
  .next ((s.modifyQuiet (.reg .d) (resBit 5)).cycles 8)

/-- `RES 5,E` (R263). -/
def execRes5E (s : State) : Host.Outcome State Fault Refusal :=
  .next ((s.modifyQuiet (.reg .e) (resBit 5)).cycles 8)

/-- `RES 5,H` (R263). -/
def execRes5H (s : State) : Host.Outcome State Fault Refusal :=
  .next ((s.modifyQuiet (.reg .h) (resBit 5)).cycles 8)

/-- `RES 5,L` (R263). -/
def execRes5L (s : State) : Host.Outcome State Fault Refusal :=
  .next ((s.modifyQuiet (.reg .l) (resBit 5)).cycles 8)

/-- `RES 5,(HL)` (R264). -/
def execRes5AtHl (s : State) : Host.Outcome State Fault Refusal :=
  .next ((s.modifyQuiet .atHl (resBit 5)).cycles 16)

/-- `RES 5,A` (R263). -/
def execRes5A (s : State) : Host.Outcome State Fault Refusal :=
  .next ((s.modifyQuiet (.reg .a) (resBit 5)).cycles 8)

/-- `RES 6,B` (R263). -/
def execRes6B (s : State) : Host.Outcome State Fault Refusal :=
  .next ((s.modifyQuiet (.reg .b) (resBit 6)).cycles 8)

/-- `RES 6,C` (R263). -/
def execRes6C (s : State) : Host.Outcome State Fault Refusal :=
  .next ((s.modifyQuiet (.reg .c) (resBit 6)).cycles 8)

/-- `RES 6,D` (R263). -/
def execRes6D (s : State) : Host.Outcome State Fault Refusal :=
  .next ((s.modifyQuiet (.reg .d) (resBit 6)).cycles 8)

/-- `RES 6,E` (R263). -/
def execRes6E (s : State) : Host.Outcome State Fault Refusal :=
  .next ((s.modifyQuiet (.reg .e) (resBit 6)).cycles 8)

/-- `RES 6,H` (R263). -/
def execRes6H (s : State) : Host.Outcome State Fault Refusal :=
  .next ((s.modifyQuiet (.reg .h) (resBit 6)).cycles 8)

/-- `RES 6,L` (R263). -/
def execRes6L (s : State) : Host.Outcome State Fault Refusal :=
  .next ((s.modifyQuiet (.reg .l) (resBit 6)).cycles 8)

/-- `RES 6,(HL)` (R264). -/
def execRes6AtHl (s : State) : Host.Outcome State Fault Refusal :=
  .next ((s.modifyQuiet .atHl (resBit 6)).cycles 16)

/-- `RES 6,A` (R263). -/
def execRes6A (s : State) : Host.Outcome State Fault Refusal :=
  .next ((s.modifyQuiet (.reg .a) (resBit 6)).cycles 8)

/-- `RES 7,B` (R263). -/
def execRes7B (s : State) : Host.Outcome State Fault Refusal :=
  .next ((s.modifyQuiet (.reg .b) (resBit 7)).cycles 8)

/-- `RES 7,C` (R263). -/
def execRes7C (s : State) : Host.Outcome State Fault Refusal :=
  .next ((s.modifyQuiet (.reg .c) (resBit 7)).cycles 8)

/-- `RES 7,D` (R263). -/
def execRes7D (s : State) : Host.Outcome State Fault Refusal :=
  .next ((s.modifyQuiet (.reg .d) (resBit 7)).cycles 8)

/-- `RES 7,E` (R263). -/
def execRes7E (s : State) : Host.Outcome State Fault Refusal :=
  .next ((s.modifyQuiet (.reg .e) (resBit 7)).cycles 8)

/-- `RES 7,H` (R263). -/
def execRes7H (s : State) : Host.Outcome State Fault Refusal :=
  .next ((s.modifyQuiet (.reg .h) (resBit 7)).cycles 8)

/-- `RES 7,L` (R263). -/
def execRes7L (s : State) : Host.Outcome State Fault Refusal :=
  .next ((s.modifyQuiet (.reg .l) (resBit 7)).cycles 8)

/-- `RES 7,(HL)` (R264). -/
def execRes7AtHl (s : State) : Host.Outcome State Fault Refusal :=
  .next ((s.modifyQuiet .atHl (resBit 7)).cycles 16)

/-- `RES 7,A` (R263). -/
def execRes7A (s : State) : Host.Outcome State Fault Refusal :=
  .next ((s.modifyQuiet (.reg .a) (resBit 7)).cycles 8)

/-- `SET 0,B` (R265). -/
def execSet0B (s : State) : Host.Outcome State Fault Refusal :=
  .next ((s.modifyQuiet (.reg .b) (setBit 0)).cycles 8)

/-- `SET 0,C` (R265). -/
def execSet0C (s : State) : Host.Outcome State Fault Refusal :=
  .next ((s.modifyQuiet (.reg .c) (setBit 0)).cycles 8)

/-- `SET 0,D` (R265). -/
def execSet0D (s : State) : Host.Outcome State Fault Refusal :=
  .next ((s.modifyQuiet (.reg .d) (setBit 0)).cycles 8)

/-- `SET 0,E` (R265). -/
def execSet0E (s : State) : Host.Outcome State Fault Refusal :=
  .next ((s.modifyQuiet (.reg .e) (setBit 0)).cycles 8)

/-- `SET 0,H` (R265). -/
def execSet0H (s : State) : Host.Outcome State Fault Refusal :=
  .next ((s.modifyQuiet (.reg .h) (setBit 0)).cycles 8)

/-- `SET 0,L` (R265). -/
def execSet0L (s : State) : Host.Outcome State Fault Refusal :=
  .next ((s.modifyQuiet (.reg .l) (setBit 0)).cycles 8)

/-- `SET 0,(HL)` (R266). -/
def execSet0AtHl (s : State) : Host.Outcome State Fault Refusal :=
  .next ((s.modifyQuiet .atHl (setBit 0)).cycles 16)

/-- `SET 0,A` (R265). -/
def execSet0A (s : State) : Host.Outcome State Fault Refusal :=
  .next ((s.modifyQuiet (.reg .a) (setBit 0)).cycles 8)

/-- `SET 1,B` (R265). -/
def execSet1B (s : State) : Host.Outcome State Fault Refusal :=
  .next ((s.modifyQuiet (.reg .b) (setBit 1)).cycles 8)

/-- `SET 1,C` (R265). -/
def execSet1C (s : State) : Host.Outcome State Fault Refusal :=
  .next ((s.modifyQuiet (.reg .c) (setBit 1)).cycles 8)

/-- `SET 1,D` (R265). -/
def execSet1D (s : State) : Host.Outcome State Fault Refusal :=
  .next ((s.modifyQuiet (.reg .d) (setBit 1)).cycles 8)

/-- `SET 1,E` (R265). -/
def execSet1E (s : State) : Host.Outcome State Fault Refusal :=
  .next ((s.modifyQuiet (.reg .e) (setBit 1)).cycles 8)

/-- `SET 1,H` (R265). -/
def execSet1H (s : State) : Host.Outcome State Fault Refusal :=
  .next ((s.modifyQuiet (.reg .h) (setBit 1)).cycles 8)

/-- `SET 1,L` (R265). -/
def execSet1L (s : State) : Host.Outcome State Fault Refusal :=
  .next ((s.modifyQuiet (.reg .l) (setBit 1)).cycles 8)

/-- `SET 1,(HL)` (R266). -/
def execSet1AtHl (s : State) : Host.Outcome State Fault Refusal :=
  .next ((s.modifyQuiet .atHl (setBit 1)).cycles 16)

/-- `SET 1,A` (R265). -/
def execSet1A (s : State) : Host.Outcome State Fault Refusal :=
  .next ((s.modifyQuiet (.reg .a) (setBit 1)).cycles 8)

/-- `SET 2,B` (R265). -/
def execSet2B (s : State) : Host.Outcome State Fault Refusal :=
  .next ((s.modifyQuiet (.reg .b) (setBit 2)).cycles 8)

/-- `SET 2,C` (R265). -/
def execSet2C (s : State) : Host.Outcome State Fault Refusal :=
  .next ((s.modifyQuiet (.reg .c) (setBit 2)).cycles 8)

/-- `SET 2,D` (R265). -/
def execSet2D (s : State) : Host.Outcome State Fault Refusal :=
  .next ((s.modifyQuiet (.reg .d) (setBit 2)).cycles 8)

/-- `SET 2,E` (R265). -/
def execSet2E (s : State) : Host.Outcome State Fault Refusal :=
  .next ((s.modifyQuiet (.reg .e) (setBit 2)).cycles 8)

/-- `SET 2,H` (R265). -/
def execSet2H (s : State) : Host.Outcome State Fault Refusal :=
  .next ((s.modifyQuiet (.reg .h) (setBit 2)).cycles 8)

/-- `SET 2,L` (R265). -/
def execSet2L (s : State) : Host.Outcome State Fault Refusal :=
  .next ((s.modifyQuiet (.reg .l) (setBit 2)).cycles 8)

/-- `SET 2,(HL)` (R266). -/
def execSet2AtHl (s : State) : Host.Outcome State Fault Refusal :=
  .next ((s.modifyQuiet .atHl (setBit 2)).cycles 16)

/-- `SET 2,A` (R265). -/
def execSet2A (s : State) : Host.Outcome State Fault Refusal :=
  .next ((s.modifyQuiet (.reg .a) (setBit 2)).cycles 8)

/-- `SET 3,B` (R265). -/
def execSet3B (s : State) : Host.Outcome State Fault Refusal :=
  .next ((s.modifyQuiet (.reg .b) (setBit 3)).cycles 8)

/-- `SET 3,C` (R265). -/
def execSet3C (s : State) : Host.Outcome State Fault Refusal :=
  .next ((s.modifyQuiet (.reg .c) (setBit 3)).cycles 8)

/-- `SET 3,D` (R265). -/
def execSet3D (s : State) : Host.Outcome State Fault Refusal :=
  .next ((s.modifyQuiet (.reg .d) (setBit 3)).cycles 8)

/-- `SET 3,E` (R265). -/
def execSet3E (s : State) : Host.Outcome State Fault Refusal :=
  .next ((s.modifyQuiet (.reg .e) (setBit 3)).cycles 8)

/-- `SET 3,H` (R265). -/
def execSet3H (s : State) : Host.Outcome State Fault Refusal :=
  .next ((s.modifyQuiet (.reg .h) (setBit 3)).cycles 8)

/-- `SET 3,L` (R265). -/
def execSet3L (s : State) : Host.Outcome State Fault Refusal :=
  .next ((s.modifyQuiet (.reg .l) (setBit 3)).cycles 8)

/-- `SET 3,(HL)` (R266). -/
def execSet3AtHl (s : State) : Host.Outcome State Fault Refusal :=
  .next ((s.modifyQuiet .atHl (setBit 3)).cycles 16)

/-- `SET 3,A` (R265). -/
def execSet3A (s : State) : Host.Outcome State Fault Refusal :=
  .next ((s.modifyQuiet (.reg .a) (setBit 3)).cycles 8)

/-- `SET 4,B` (R265). -/
def execSet4B (s : State) : Host.Outcome State Fault Refusal :=
  .next ((s.modifyQuiet (.reg .b) (setBit 4)).cycles 8)

/-- `SET 4,C` (R265). -/
def execSet4C (s : State) : Host.Outcome State Fault Refusal :=
  .next ((s.modifyQuiet (.reg .c) (setBit 4)).cycles 8)

/-- `SET 4,D` (R265). -/
def execSet4D (s : State) : Host.Outcome State Fault Refusal :=
  .next ((s.modifyQuiet (.reg .d) (setBit 4)).cycles 8)

/-- `SET 4,E` (R265). -/
def execSet4E (s : State) : Host.Outcome State Fault Refusal :=
  .next ((s.modifyQuiet (.reg .e) (setBit 4)).cycles 8)

/-- `SET 4,H` (R265). -/
def execSet4H (s : State) : Host.Outcome State Fault Refusal :=
  .next ((s.modifyQuiet (.reg .h) (setBit 4)).cycles 8)

/-- `SET 4,L` (R265). -/
def execSet4L (s : State) : Host.Outcome State Fault Refusal :=
  .next ((s.modifyQuiet (.reg .l) (setBit 4)).cycles 8)

/-- `SET 4,(HL)` (R266). -/
def execSet4AtHl (s : State) : Host.Outcome State Fault Refusal :=
  .next ((s.modifyQuiet .atHl (setBit 4)).cycles 16)

/-- `SET 4,A` (R265). -/
def execSet4A (s : State) : Host.Outcome State Fault Refusal :=
  .next ((s.modifyQuiet (.reg .a) (setBit 4)).cycles 8)

/-- `SET 5,B` (R265). -/
def execSet5B (s : State) : Host.Outcome State Fault Refusal :=
  .next ((s.modifyQuiet (.reg .b) (setBit 5)).cycles 8)

/-- `SET 5,C` (R265). -/
def execSet5C (s : State) : Host.Outcome State Fault Refusal :=
  .next ((s.modifyQuiet (.reg .c) (setBit 5)).cycles 8)

/-- `SET 5,D` (R265). -/
def execSet5D (s : State) : Host.Outcome State Fault Refusal :=
  .next ((s.modifyQuiet (.reg .d) (setBit 5)).cycles 8)

/-- `SET 5,E` (R265). -/
def execSet5E (s : State) : Host.Outcome State Fault Refusal :=
  .next ((s.modifyQuiet (.reg .e) (setBit 5)).cycles 8)

/-- `SET 5,H` (R265). -/
def execSet5H (s : State) : Host.Outcome State Fault Refusal :=
  .next ((s.modifyQuiet (.reg .h) (setBit 5)).cycles 8)

/-- `SET 5,L` (R265). -/
def execSet5L (s : State) : Host.Outcome State Fault Refusal :=
  .next ((s.modifyQuiet (.reg .l) (setBit 5)).cycles 8)

/-- `SET 5,(HL)` (R266). -/
def execSet5AtHl (s : State) : Host.Outcome State Fault Refusal :=
  .next ((s.modifyQuiet .atHl (setBit 5)).cycles 16)

/-- `SET 5,A` (R265). -/
def execSet5A (s : State) : Host.Outcome State Fault Refusal :=
  .next ((s.modifyQuiet (.reg .a) (setBit 5)).cycles 8)

/-- `SET 6,B` (R265). -/
def execSet6B (s : State) : Host.Outcome State Fault Refusal :=
  .next ((s.modifyQuiet (.reg .b) (setBit 6)).cycles 8)

/-- `SET 6,C` (R265). -/
def execSet6C (s : State) : Host.Outcome State Fault Refusal :=
  .next ((s.modifyQuiet (.reg .c) (setBit 6)).cycles 8)

/-- `SET 6,D` (R265). -/
def execSet6D (s : State) : Host.Outcome State Fault Refusal :=
  .next ((s.modifyQuiet (.reg .d) (setBit 6)).cycles 8)

/-- `SET 6,E` (R265). -/
def execSet6E (s : State) : Host.Outcome State Fault Refusal :=
  .next ((s.modifyQuiet (.reg .e) (setBit 6)).cycles 8)

/-- `SET 6,H` (R265). -/
def execSet6H (s : State) : Host.Outcome State Fault Refusal :=
  .next ((s.modifyQuiet (.reg .h) (setBit 6)).cycles 8)

/-- `SET 6,L` (R265). -/
def execSet6L (s : State) : Host.Outcome State Fault Refusal :=
  .next ((s.modifyQuiet (.reg .l) (setBit 6)).cycles 8)

/-- `SET 6,(HL)` (R266). -/
def execSet6AtHl (s : State) : Host.Outcome State Fault Refusal :=
  .next ((s.modifyQuiet .atHl (setBit 6)).cycles 16)

/-- `SET 6,A` (R265). -/
def execSet6A (s : State) : Host.Outcome State Fault Refusal :=
  .next ((s.modifyQuiet (.reg .a) (setBit 6)).cycles 8)

/-- `SET 7,B` (R265). -/
def execSet7B (s : State) : Host.Outcome State Fault Refusal :=
  .next ((s.modifyQuiet (.reg .b) (setBit 7)).cycles 8)

/-- `SET 7,C` (R265). -/
def execSet7C (s : State) : Host.Outcome State Fault Refusal :=
  .next ((s.modifyQuiet (.reg .c) (setBit 7)).cycles 8)

/-- `SET 7,D` (R265). -/
def execSet7D (s : State) : Host.Outcome State Fault Refusal :=
  .next ((s.modifyQuiet (.reg .d) (setBit 7)).cycles 8)

/-- `SET 7,E` (R265). -/
def execSet7E (s : State) : Host.Outcome State Fault Refusal :=
  .next ((s.modifyQuiet (.reg .e) (setBit 7)).cycles 8)

/-- `SET 7,H` (R265). -/
def execSet7H (s : State) : Host.Outcome State Fault Refusal :=
  .next ((s.modifyQuiet (.reg .h) (setBit 7)).cycles 8)

/-- `SET 7,L` (R265). -/
def execSet7L (s : State) : Host.Outcome State Fault Refusal :=
  .next ((s.modifyQuiet (.reg .l) (setBit 7)).cycles 8)

/-- `SET 7,(HL)` (R266). -/
def execSet7AtHl (s : State) : Host.Outcome State Fault Refusal :=
  .next ((s.modifyQuiet .atHl (setBit 7)).cycles 16)

/-- `SET 7,A` (R265). -/
def execSet7A (s : State) : Host.Outcome State Fault Refusal :=
  .next ((s.modifyQuiet (.reg .a) (setBit 7)).cycles 8)

end Sys2Proof.Machine
end

