-- ==== Sys2Proof/Machine/Transfer.lean ====
section
/-! DEFINITION. The meanings of 47_control_transfer.md: jumps, calls, returns and restarts. The condition is
evaluated on F as it stands, a call pushes the PC after the instruction, and no flag is written (R270). -/

namespace Sys2Proof.Machine

/-- `JR e` (R274). -/
def execJrRel (e : Byte) (s : State) : Host.Outcome State Fault Refusal :=
  .next ((s.jumpRel e).cycles 12)

/-- `JR NZ,e` (R275). -/
def execJrNzRel (e : Byte) (s : State) : Host.Outcome State Fault Refusal :=
  .next (s.ifCond .nz (·.jumpRel e) 12 8)

/-- `JR Z,e` (R275). -/
def execJrZRel (e : Byte) (s : State) : Host.Outcome State Fault Refusal :=
  .next (s.ifCond .z (·.jumpRel e) 12 8)

/-- `JR NC,e` (R275). -/
def execJrNcRel (e : Byte) (s : State) : Host.Outcome State Fault Refusal :=
  .next (s.ifCond .nc (·.jumpRel e) 12 8)

/-- `JR C,e` (R275). -/
def execJrCRel (e : Byte) (s : State) : Host.Outcome State Fault Refusal :=
  .next (s.ifCond .c (·.jumpRel e) 12 8)

/-- `RET NZ` (R279). -/
def execRetNz (s : State) : Host.Outcome State Fault Refusal :=
  .next (s.ifCond .nz State.ret 20 8)

/-- `JP NZ,nn` (R272). -/
def execJpNzNn (nn : Word) (s : State) : Host.Outcome State Fault Refusal :=
  .next (s.ifCond .nz (·.setPc nn) 16 12)

/-- `JP nn` (R271). -/
def execJpNn (nn : Word) (s : State) : Host.Outcome State Fault Refusal :=
  .next ((s.setPc nn).cycles 16)

/-- `CALL NZ,nn` (R277). -/
def execCallNzNn (nn : Word) (s : State) : Host.Outcome State Fault Refusal :=
  .next (s.ifCond .nz (·.call nn) 24 12)

/-- `RST 00H` (R281). -/
def execRst00h (s : State) : Host.Outcome State Fault Refusal :=
  .next ((s.call 0x0000).cycles 16)

/-- `RET Z` (R279). -/
def execRetZ (s : State) : Host.Outcome State Fault Refusal :=
  .next (s.ifCond .z State.ret 20 8)

/-- `RET` (R278). -/
def execRet (s : State) : Host.Outcome State Fault Refusal :=
  .next (s.ret.cycles 16)

/-- `JP Z,nn` (R272). -/
def execJpZNn (nn : Word) (s : State) : Host.Outcome State Fault Refusal :=
  .next (s.ifCond .z (·.setPc nn) 16 12)

/-- `CALL Z,nn` (R277). -/
def execCallZNn (nn : Word) (s : State) : Host.Outcome State Fault Refusal :=
  .next (s.ifCond .z (·.call nn) 24 12)

/-- `CALL nn` (R276). -/
def execCallNn (nn : Word) (s : State) : Host.Outcome State Fault Refusal :=
  .next ((s.call nn).cycles 24)

/-- `RST 08H` (R281). -/
def execRst08h (s : State) : Host.Outcome State Fault Refusal :=
  .next ((s.call 0x0008).cycles 16)

/-- `RET NC` (R279). -/
def execRetNc (s : State) : Host.Outcome State Fault Refusal :=
  .next (s.ifCond .nc State.ret 20 8)

/-- `JP NC,nn` (R272). -/
def execJpNcNn (nn : Word) (s : State) : Host.Outcome State Fault Refusal :=
  .next (s.ifCond .nc (·.setPc nn) 16 12)

/-- `CALL NC,nn` (R277). -/
def execCallNcNn (nn : Word) (s : State) : Host.Outcome State Fault Refusal :=
  .next (s.ifCond .nc (·.call nn) 24 12)

/-- `RST 10H` (R281). -/
def execRst10h (s : State) : Host.Outcome State Fault Refusal :=
  .next ((s.call 0x0010).cycles 16)

/-- `RET C` (R279). -/
def execRetC (s : State) : Host.Outcome State Fault Refusal :=
  .next (s.ifCond .c State.ret 20 8)

/-- `RETI` (R280). -/
def execReti (s : State) : Host.Outcome State Fault Refusal :=
  .next (s.returnFromInterrupt.cycles 16)

/-- `JP C,nn` (R272). -/
def execJpCNn (nn : Word) (s : State) : Host.Outcome State Fault Refusal :=
  .next (s.ifCond .c (·.setPc nn) 16 12)

/-- `CALL C,nn` (R277). -/
def execCallCNn (nn : Word) (s : State) : Host.Outcome State Fault Refusal :=
  .next (s.ifCond .c (·.call nn) 24 12)

/-- `RST 18H` (R281). -/
def execRst18h (s : State) : Host.Outcome State Fault Refusal :=
  .next ((s.call 0x0018).cycles 16)

/-- `RST 20H` (R281). -/
def execRst20h (s : State) : Host.Outcome State Fault Refusal :=
  .next ((s.call 0x0020).cycles 16)

/-- `JP HL` (R273). -/
def execJpHl (s : State) : Host.Outcome State Fault Refusal :=
  .next ((s.setPc s.hl).cycles 4)

/-- `RST 28H` (R281). -/
def execRst28h (s : State) : Host.Outcome State Fault Refusal :=
  .next ((s.call 0x0028).cycles 16)

/-- `RST 30H` (R281). -/
def execRst30h (s : State) : Host.Outcome State Fault Refusal :=
  .next ((s.call 0x0030).cycles 16)

/-- `RST 38H` (R281). -/
def execRst38h (s : State) : Host.Outcome State Fault Refusal :=
  .next ((s.call 0x0038).cycles 16)

end Sys2Proof.Machine
end

