-- ==== Sys2Proof/WellFormed.lean ====
section
/-! DEFINITION. Which terms of `Instr` are instructions. Immediates, displacements and addresses take every value
(R82 to R84), so two checks remain: an unrecognized opcode is one of the eleven of R93, and the bare prefix is not an
instruction beside the extended rows (R125: prefix and second byte are ONE instruction; DESIGN CHOICE, log entry 7). -/

namespace Sys2Proof

/-- The eleven unrecognized primary opcode values (R93, R126). -/
def illegalOpcodes : List Byte :=
  [0xD3, 0xDB, 0xDD, 0xE3, 0xE4, 0xEB, 0xEC, 0xED, 0xF4, 0xFC, 0xFD]

/-- Check 1 (R93): the byte is one of the eleven unrecognized opcodes. -/
def WellFormed.isUnrecognized (op : Byte) : Bool := illegalOpcodes.contains op

/-- Check 2 (R125, R96): every value after the prefix names an extended row, and that row's own constructor is the
instruction; the generic form is its second spelling and never well formed. -/
def WellFormed.isCanonicalSpelling : Instr → Bool
  | .prefixCb _ => false
  | _ => true

/-- An instruction of the table: both checks hold. -/
def Instr.wellFormed (i : Instr) : Bool :=
  WellFormed.isCanonicalSpelling i &&
    match i with
    | .illegal op => WellFormed.isUnrecognized op
    | _ => true

end Sys2Proof
end

