-- ==== Sys2Proof/Decode.lean ====
section
/-! DEFINITION. The decoder and the encoder of 30_encoding.md. The decoder is two table lookups, as R92 says: the
opcode byte selects a row of the primary table, which says what bytes follow (R80), and the prefix 0xCB selects a row
of the extended table by the second byte. It is total on any bytes: it answers an instruction with the bytes left
over, or a rejection by name. The eleven unrecognized opcodes decode to `Instr.illegal`, whose meaning takes the decode
fault (R93, R126). The encoder follows, and last the two fixed names the host reads words through. -/

namespace Sys2Proof

/-! ## The operand codes (R85 to R90) -/

/-- The 3-bit code of a register (R85). -/
def Reg8.code : Reg8 → BitVec 3
  | .b => 0
  | .c => 1
  | .d => 2
  | .e => 3
  | .h => 4
  | .l => 5
  | .a => 7

/-- The 3-bit code of an 8-bit operand (R85). -/
def Place.code : Place → BitVec 3
  | .reg r => r.code
  | .atHl => 6

/-- The 2-bit code `rp` (R86). -/
def Pair.code : Pair → BitVec 2
  | .bc => 0
  | .de => 1
  | .hl => 2
  | .sp => 3

/-- The 2-bit code `rp2` (R87). -/
def StackPair.code : StackPair → BitVec 2
  | .bc => 0
  | .de => 1
  | .hl => 2
  | .af => 3

/-- The 2-bit condition code (R88). -/
def Cond.code : Cond → BitVec 2
  | .nz => 0
  | .z => 1
  | .nc => 2
  | .c => 3

/-- The 3-bit operation code of the accumulator operations (R89). -/
def AluOp.code : AluOp → BitVec 3
  | .add => 0
  | .adc => 1
  | .sub => 2
  | .sbc => 3
  | .and => 4
  | .xor => 5
  | .or => 6
  | .cp => 7

/-- The 3-bit code of the rotates and shifts (R90). -/
def RotOp.code : RotOp → BitVec 3
  | .rlc => 0
  | .rrc => 1
  | .rl => 2
  | .rr => 3
  | .sla => 4
  | .sra => 5
  | .swap => 6
  | .srl => 7

/-- What a primary opcode byte selects (R80): an instruction of one byte, one with an immediate or displacement byte,
one with a 16-bit immediate, STOP (whose length is a parameter, R94), or the prefix of the extended table. -/
inductive Row where
  | op (i : Instr)
  | opN (f : Byte → Instr)
  | opNn (f : Word → Instr)
  | stop
  | cbPrefix

/-! ## The primary table (R95) -/

/-- The primary rows of opcodes 0x00 to 0x0F. -/
def primaryRows0 : List Row :=
  [.op .nop, .opNn .ldBcNn, .op .ldAtBcA, .op .incBc, .op .incB, .op .decB, .opN .ldBN, .op .rlca,
   .opNn .ldAtNnSp, .op .addHlBc, .op .ldAAtBc, .op .decBc, .op .incC, .op .decC, .opN .ldCN, .op .rrca]

/-- The primary rows of opcodes 0x10 to 0x1F. -/
def primaryRows1 : List Row :=
  [.stop, .opNn .ldDeNn, .op .ldAtDeA, .op .incDe, .op .incD, .op .decD, .opN .ldDN, .op .rla,
   .opN .jrRel, .op .addHlDe, .op .ldAAtDe, .op .decDe, .op .incE, .op .decE, .opN .ldEN, .op .rra]

/-- The primary rows of opcodes 0x20 to 0x2F. -/
def primaryRows2 : List Row :=
  [.opN .jrNzRel, .opNn .ldHlNn, .op .ldAtHlIncA, .op .incHl, .op .incH, .op .decH, .opN .ldHN,
   .op .daa, .opN .jrZRel, .op .addHlHl, .op .ldAAtHlInc, .op .decHl, .op .incL, .op .decL,
   .opN .ldLN, .op .cpl]

/-- The primary rows of opcodes 0x30 to 0x3F. -/
def primaryRows3 : List Row :=
  [.opN .jrNcRel, .opNn .ldSpNn, .op .ldAtHlDecA, .op .incSp, .op .incAtHl, .op .decAtHl,
   .opN .ldAtHlN, .op .scf, .opN .jrCRel, .op .addHlSp, .op .ldAAtHlDec, .op .decSp, .op .incA,
   .op .decA, .opN .ldAN, .op .ccf]

/-- The primary rows of opcodes 0x40 to 0x4F. -/
def primaryRows4 : List Row :=
  [.op .ldBB, .op .ldBC, .op .ldBD, .op .ldBE, .op .ldBH, .op .ldBL, .op .ldBAtHl, .op .ldBA,
   .op .ldCB, .op .ldCC, .op .ldCD, .op .ldCE, .op .ldCH, .op .ldCL, .op .ldCAtHl, .op .ldCA]

/-- The primary rows of opcodes 0x50 to 0x5F. -/
def primaryRows5 : List Row :=
  [.op .ldDB, .op .ldDC, .op .ldDD, .op .ldDE, .op .ldDH, .op .ldDL, .op .ldDAtHl, .op .ldDA,
   .op .ldEB, .op .ldEC, .op .ldED, .op .ldEE, .op .ldEH, .op .ldEL, .op .ldEAtHl, .op .ldEA]

/-- The primary rows of opcodes 0x60 to 0x6F. -/
def primaryRows6 : List Row :=
  [.op .ldHB, .op .ldHC, .op .ldHD, .op .ldHE, .op .ldHH, .op .ldHL, .op .ldHAtHl, .op .ldHA,
   .op .ldLB, .op .ldLC, .op .ldLD, .op .ldLE, .op .ldLH, .op .ldLL, .op .ldLAtHl, .op .ldLA]

/-- The primary rows of opcodes 0x70 to 0x7F. -/
def primaryRows7 : List Row :=
  [.op .ldAtHlB, .op .ldAtHlC, .op .ldAtHlD, .op .ldAtHlE, .op .ldAtHlH, .op .ldAtHlL, .op .halt,
   .op .ldAtHlA, .op .ldAB, .op .ldAC, .op .ldAD, .op .ldAE, .op .ldAH, .op .ldAL, .op .ldAAtHl,
   .op .ldAA]

/-- The primary rows of opcodes 0x80 to 0x8F. -/
def primaryRows8 : List Row :=
  [.op .addAB, .op .addAC, .op .addAD, .op .addAE, .op .addAH, .op .addAL, .op .addAAtHl, .op .addAA,
   .op .adcAB, .op .adcAC, .op .adcAD, .op .adcAE, .op .adcAH, .op .adcAL, .op .adcAAtHl, .op .adcAA]

/-- The primary rows of opcodes 0x90 to 0x9F. -/
def primaryRows9 : List Row :=
  [.op .subB, .op .subC, .op .subD, .op .subE, .op .subH, .op .subL, .op .subAtHl, .op .subA,
   .op .sbcAB, .op .sbcAC, .op .sbcAD, .op .sbcAE, .op .sbcAH, .op .sbcAL, .op .sbcAAtHl, .op .sbcAA]

/-- The primary rows of opcodes 0xA0 to 0xAF. -/
def primaryRowsA : List Row :=
  [.op .andB, .op .andC, .op .andD, .op .andE, .op .andH, .op .andL, .op .andAtHl, .op .andA,
   .op .xorB, .op .xorC, .op .xorD, .op .xorE, .op .xorH, .op .xorL, .op .xorAtHl, .op .xorA]

/-- The primary rows of opcodes 0xB0 to 0xBF. -/
def primaryRowsB : List Row :=
  [.op .orB, .op .orC, .op .orD, .op .orE, .op .orH, .op .orL, .op .orAtHl, .op .orA, .op .cpB,
   .op .cpC, .op .cpD, .op .cpE, .op .cpH, .op .cpL, .op .cpAtHl, .op .cpA]

/-- The primary rows of opcodes 0xC0 to 0xCF. -/
def primaryRowsC : List Row :=
  [.op .retNz, .op .popBc, .opNn .jpNzNn, .opNn .jpNn, .opNn .callNzNn, .op .pushBc, .opN .addAN,
   .op .rst00h, .op .retZ, .op .ret, .opNn .jpZNn, .cbPrefix, .opNn .callZNn, .opNn .callNn,
   .opN .adcAN, .op .rst08h]

/-- The primary rows of opcodes 0xD0 to 0xDF. -/
def primaryRowsD : List Row :=
  [.op .retNc, .op .popDe, .opNn .jpNcNn, .op (.illegal 0xD3), .opNn .callNcNn, .op .pushDe,
   .opN .subN, .op .rst10h, .op .retC, .op .reti, .opNn .jpCNn, .op (.illegal 0xDB), .opNn .callCNn,
   .op (.illegal 0xDD), .opN .sbcAN, .op .rst18h]

/-- The primary rows of opcodes 0xE0 to 0xEF. -/
def primaryRowsE : List Row :=
  [.opN .ldhAtNA, .op .popHl, .op .ldAtCA, .op (.illegal 0xE3), .op (.illegal 0xE4), .op .pushHl,
   .opN .andN, .op .rst20h, .opN .addSpRel, .op .jpHl, .opNn .ldAtNnA, .op (.illegal 0xEB),
   .op (.illegal 0xEC), .op (.illegal 0xED), .opN .xorN, .op .rst28h]

/-- The primary rows of opcodes 0xF0 to 0xFF. -/
def primaryRowsF : List Row :=
  [.opN .ldhAAtN, .op .popAf, .op .ldAAtC, .op .di, .op (.illegal 0xF4), .op .pushAf, .opN .orN,
   .op .rst30h, .opN .ldHlSpRel, .op .ldSpHl, .opNn .ldAAtNn, .op .ei, .op (.illegal 0xFC),
   .op (.illegal 0xFD), .opN .cpN, .op .rst38h]

/-- The sixteen rows of the primary table with a high nibble (R95). -/
def primaryRows : Nat → List Row
  | 0 => primaryRows0
  | 1 => primaryRows1
  | 2 => primaryRows2
  | 3 => primaryRows3
  | 4 => primaryRows4
  | 5 => primaryRows5
  | 6 => primaryRows6
  | 7 => primaryRows7
  | 8 => primaryRows8
  | 9 => primaryRows9
  | 10 => primaryRowsA
  | 11 => primaryRowsB
  | 12 => primaryRowsC
  | 13 => primaryRowsD
  | 14 => primaryRowsE
  | _ => primaryRowsF

/-- The row a primary opcode byte selects; the table has 256 rows, so the default is never taken. -/
def primaryRow (op : Byte) : Row := (primaryRows (op.toNat / 16)).getD (op.toNat % 16) (.op (.illegal op))

/-! ## The extended table (R96) -/

/-- The extended rows of second bytes 0x00 to 0x0F. -/
def extendedRows0 : List Instr :=
  [.rlcB, .rlcC, .rlcD, .rlcE, .rlcH, .rlcL, .rlcAtHl, .rlcA, .rrcB, .rrcC, .rrcD, .rrcE, .rrcH,
   .rrcL, .rrcAtHl, .rrcA]

/-- The extended rows of second bytes 0x10 to 0x1F. -/
def extendedRows1 : List Instr :=
  [.rlB, .rlC, .rlD, .rlE, .rlH, .rlL, .rlAtHl, .rlA, .rrB, .rrC, .rrD, .rrE, .rrH, .rrL, .rrAtHl, .rrA]

/-- The extended rows of second bytes 0x20 to 0x2F. -/
def extendedRows2 : List Instr :=
  [.slaB, .slaC, .slaD, .slaE, .slaH, .slaL, .slaAtHl, .slaA, .sraB, .sraC, .sraD, .sraE, .sraH,
   .sraL, .sraAtHl, .sraA]

/-- The extended rows of second bytes 0x30 to 0x3F. -/
def extendedRows3 : List Instr :=
  [.swapB, .swapC, .swapD, .swapE, .swapH, .swapL, .swapAtHl, .swapA, .srlB, .srlC, .srlD, .srlE,
   .srlH, .srlL, .srlAtHl, .srlA]

/-- The extended rows of second bytes 0x40 to 0x4F. -/
def extendedRows4 : List Instr :=
  [.bit0B, .bit0C, .bit0D, .bit0E, .bit0H, .bit0L, .bit0AtHl, .bit0A, .bit1B, .bit1C, .bit1D, .bit1E,
   .bit1H, .bit1L, .bit1AtHl, .bit1A]

/-- The extended rows of second bytes 0x50 to 0x5F. -/
def extendedRows5 : List Instr :=
  [.bit2B, .bit2C, .bit2D, .bit2E, .bit2H, .bit2L, .bit2AtHl, .bit2A, .bit3B, .bit3C, .bit3D, .bit3E,
   .bit3H, .bit3L, .bit3AtHl, .bit3A]

/-- The extended rows of second bytes 0x60 to 0x6F. -/
def extendedRows6 : List Instr :=
  [.bit4B, .bit4C, .bit4D, .bit4E, .bit4H, .bit4L, .bit4AtHl, .bit4A, .bit5B, .bit5C, .bit5D, .bit5E,
   .bit5H, .bit5L, .bit5AtHl, .bit5A]

/-- The extended rows of second bytes 0x70 to 0x7F. -/
def extendedRows7 : List Instr :=
  [.bit6B, .bit6C, .bit6D, .bit6E, .bit6H, .bit6L, .bit6AtHl, .bit6A, .bit7B, .bit7C, .bit7D, .bit7E,
   .bit7H, .bit7L, .bit7AtHl, .bit7A]

/-- The extended rows of second bytes 0x80 to 0x8F. -/
def extendedRows8 : List Instr :=
  [.res0B, .res0C, .res0D, .res0E, .res0H, .res0L, .res0AtHl, .res0A, .res1B, .res1C, .res1D, .res1E,
   .res1H, .res1L, .res1AtHl, .res1A]

/-- The extended rows of second bytes 0x90 to 0x9F. -/
def extendedRows9 : List Instr :=
  [.res2B, .res2C, .res2D, .res2E, .res2H, .res2L, .res2AtHl, .res2A, .res3B, .res3C, .res3D, .res3E,
   .res3H, .res3L, .res3AtHl, .res3A]

/-- The extended rows of second bytes 0xA0 to 0xAF. -/
def extendedRowsA : List Instr :=
  [.res4B, .res4C, .res4D, .res4E, .res4H, .res4L, .res4AtHl, .res4A, .res5B, .res5C, .res5D, .res5E,
   .res5H, .res5L, .res5AtHl, .res5A]

/-- The extended rows of second bytes 0xB0 to 0xBF. -/
def extendedRowsB : List Instr :=
  [.res6B, .res6C, .res6D, .res6E, .res6H, .res6L, .res6AtHl, .res6A, .res7B, .res7C, .res7D, .res7E,
   .res7H, .res7L, .res7AtHl, .res7A]

/-- The extended rows of second bytes 0xC0 to 0xCF. -/
def extendedRowsC : List Instr :=
  [.set0B, .set0C, .set0D, .set0E, .set0H, .set0L, .set0AtHl, .set0A, .set1B, .set1C, .set1D, .set1E,
   .set1H, .set1L, .set1AtHl, .set1A]

/-- The extended rows of second bytes 0xD0 to 0xDF. -/
def extendedRowsD : List Instr :=
  [.set2B, .set2C, .set2D, .set2E, .set2H, .set2L, .set2AtHl, .set2A, .set3B, .set3C, .set3D, .set3E,
   .set3H, .set3L, .set3AtHl, .set3A]

/-- The extended rows of second bytes 0xE0 to 0xEF. -/
def extendedRowsE : List Instr :=
  [.set4B, .set4C, .set4D, .set4E, .set4H, .set4L, .set4AtHl, .set4A, .set5B, .set5C, .set5D, .set5E,
   .set5H, .set5L, .set5AtHl, .set5A]

/-- The extended rows of second bytes 0xF0 to 0xFF. -/
def extendedRowsF : List Instr :=
  [.set6B, .set6C, .set6D, .set6E, .set6H, .set6L, .set6AtHl, .set6A, .set7B, .set7C, .set7D, .set7E,
   .set7H, .set7L, .set7AtHl, .set7A]

/-- The sixteen rows of the extended table with a high nibble (R96). -/
def extendedRows : Nat → List Instr
  | 0 => extendedRows0
  | 1 => extendedRows1
  | 2 => extendedRows2
  | 3 => extendedRows3
  | 4 => extendedRows4
  | 5 => extendedRows5
  | 6 => extendedRows6
  | 7 => extendedRows7
  | 8 => extendedRows8
  | 9 => extendedRows9
  | 10 => extendedRowsA
  | 11 => extendedRowsB
  | 12 => extendedRowsC
  | 13 => extendedRowsD
  | 14 => extendedRowsE
  | _ => extendedRowsF

/-- The instruction the byte after the prefix selects; all 256 are defined (R93), so the default is never taken. -/
def extendedRow (op2 : Byte) : Instr := (extendedRows (op2.toNat / 16)).getD (op2.toNat % 16) (.prefixCb op2)

/-! ## Decoding bytes (R80, R92, R94) -/

/-- Why a list of bytes holds no instruction. Both are safe: the machine itself never meets them, since it fetches as
many bytes as the row asks for. -/
inductive DecodeError where
  /-- there is no opcode byte -/
  | noBytes
  /-- the bytes end before the instruction that `op` begins does -/
  | truncated (op : Byte)
  deriving DecidableEq, Repr

/-- The bytes of the instruction a row begins, the opcode among them (R80, R94). -/
def Row.length (sl : Config.StopLength) : Row → Nat
  | .op _ => 1
  | .opN _ => 2
  | .opNn _ => 3
  | .stop => match sl with | .one => 1 | .two => 2
  | .cbPrefix => 2

/-- The instruction at the head of a list of bytes, and the bytes after it (R92, R94). A 16-bit immediate is little
endian (R84); the byte after a two-byte STOP is ignored, whatever it is (R121). -/
def decode (sl : Config.StopLength) : List Byte → Except DecodeError (Instr × List Byte)
  | [] => .error .noBytes
  | op :: rest =>
    match primaryRow op, rest with
    | .op i, rest => .ok (i, rest)
    | .opN f, n :: rest => .ok (f n, rest)
    | .opNn f, lo :: hi :: rest => .ok (f (Machine.join hi lo), rest)
    | .cbPrefix, op2 :: rest => .ok (extendedRow op2, rest)
    | .stop, rest =>
      match sl, rest with
      | .one, rest => .ok (.stop, rest)
      | .two, _ :: rest => .ok (.stop, rest)
      | .two, [] => .error (.truncated op)
    | _, _ => .error (.truncated op)

/-! ## Encoding -/

/-- STOP's bytes under each `STOP_LENGTH` (R80, R121); the ignored byte is written as the conventional 0x00 (DESIGN CHOICE, log entry 9). -/
def stopBytes : Config.StopLength → List Byte
  | .one => [0x10]
  | .two => [0x10, 0x00]

/-- The bytes of an instruction, the first at the lowest address (R80), from the opcode column of the table. -/
def encode (sl : Config.StopLength) : Instr → List Byte
  | .nop => [0x00]
  | .ldBcNn nn => [0x01, Machine.loByte nn, Machine.hiByte nn]
  | .ldAtBcA => [0x02]
  | .incBc => [0x03]
  | .incB => [0x04]
  | .decB => [0x05]
  | .ldBN n => [0x06, n]
  | .rlca => [0x07]
  | .ldAtNnSp nn => [0x08, Machine.loByte nn, Machine.hiByte nn]
  | .addHlBc => [0x09]
  | .ldAAtBc => [0x0A]
  | .decBc => [0x0B]
  | .incC => [0x0C]
  | .decC => [0x0D]
  | .ldCN n => [0x0E, n]
  | .rrca => [0x0F]
  | .stop => stopBytes sl
  | .ldDeNn nn => [0x11, Machine.loByte nn, Machine.hiByte nn]
  | .ldAtDeA => [0x12]
  | .incDe => [0x13]
  | .incD => [0x14]
  | .decD => [0x15]
  | .ldDN n => [0x16, n]
  | .rla => [0x17]
  | .jrRel e => [0x18, e]
  | .addHlDe => [0x19]
  | .ldAAtDe => [0x1A]
  | .decDe => [0x1B]
  | .incE => [0x1C]
  | .decE => [0x1D]
  | .ldEN n => [0x1E, n]
  | .rra => [0x1F]
  | .jrNzRel e => [0x20, e]
  | .ldHlNn nn => [0x21, Machine.loByte nn, Machine.hiByte nn]
  | .ldAtHlIncA => [0x22]
  | .incHl => [0x23]
  | .incH => [0x24]
  | .decH => [0x25]
  | .ldHN n => [0x26, n]
  | .daa => [0x27]
  | .jrZRel e => [0x28, e]
  | .addHlHl => [0x29]
  | .ldAAtHlInc => [0x2A]
  | .decHl => [0x2B]
  | .incL => [0x2C]
  | .decL => [0x2D]
  | .ldLN n => [0x2E, n]
  | .cpl => [0x2F]
  | .jrNcRel e => [0x30, e]
  | .ldSpNn nn => [0x31, Machine.loByte nn, Machine.hiByte nn]
  | .ldAtHlDecA => [0x32]
  | .incSp => [0x33]
  | .incAtHl => [0x34]
  | .decAtHl => [0x35]
  | .ldAtHlN n => [0x36, n]
  | .scf => [0x37]
  | .jrCRel e => [0x38, e]
  | .addHlSp => [0x39]
  | .ldAAtHlDec => [0x3A]
  | .decSp => [0x3B]
  | .incA => [0x3C]
  | .decA => [0x3D]
  | .ldAN n => [0x3E, n]
  | .ccf => [0x3F]
  | .ldBB => [0x40]
  | .ldBC => [0x41]
  | .ldBD => [0x42]
  | .ldBE => [0x43]
  | .ldBH => [0x44]
  | .ldBL => [0x45]
  | .ldBAtHl => [0x46]
  | .ldBA => [0x47]
  | .ldCB => [0x48]
  | .ldCC => [0x49]
  | .ldCD => [0x4A]
  | .ldCE => [0x4B]
  | .ldCH => [0x4C]
  | .ldCL => [0x4D]
  | .ldCAtHl => [0x4E]
  | .ldCA => [0x4F]
  | .ldDB => [0x50]
  | .ldDC => [0x51]
  | .ldDD => [0x52]
  | .ldDE => [0x53]
  | .ldDH => [0x54]
  | .ldDL => [0x55]
  | .ldDAtHl => [0x56]
  | .ldDA => [0x57]
  | .ldEB => [0x58]
  | .ldEC => [0x59]
  | .ldED => [0x5A]
  | .ldEE => [0x5B]
  | .ldEH => [0x5C]
  | .ldEL => [0x5D]
  | .ldEAtHl => [0x5E]
  | .ldEA => [0x5F]
  | .ldHB => [0x60]
  | .ldHC => [0x61]
  | .ldHD => [0x62]
  | .ldHE => [0x63]
  | .ldHH => [0x64]
  | .ldHL => [0x65]
  | .ldHAtHl => [0x66]
  | .ldHA => [0x67]
  | .ldLB => [0x68]
  | .ldLC => [0x69]
  | .ldLD => [0x6A]
  | .ldLE => [0x6B]
  | .ldLH => [0x6C]
  | .ldLL => [0x6D]
  | .ldLAtHl => [0x6E]
  | .ldLA => [0x6F]
  | .ldAtHlB => [0x70]
  | .ldAtHlC => [0x71]
  | .ldAtHlD => [0x72]
  | .ldAtHlE => [0x73]
  | .ldAtHlH => [0x74]
  | .ldAtHlL => [0x75]
  | .halt => [0x76]
  | .ldAtHlA => [0x77]
  | .ldAB => [0x78]
  | .ldAC => [0x79]
  | .ldAD => [0x7A]
  | .ldAE => [0x7B]
  | .ldAH => [0x7C]
  | .ldAL => [0x7D]
  | .ldAAtHl => [0x7E]
  | .ldAA => [0x7F]
  | .addAB => [0x80]
  | .addAC => [0x81]
  | .addAD => [0x82]
  | .addAE => [0x83]
  | .addAH => [0x84]
  | .addAL => [0x85]
  | .addAAtHl => [0x86]
  | .addAA => [0x87]
  | .adcAB => [0x88]
  | .adcAC => [0x89]
  | .adcAD => [0x8A]
  | .adcAE => [0x8B]
  | .adcAH => [0x8C]
  | .adcAL => [0x8D]
  | .adcAAtHl => [0x8E]
  | .adcAA => [0x8F]
  | .subB => [0x90]
  | .subC => [0x91]
  | .subD => [0x92]
  | .subE => [0x93]
  | .subH => [0x94]
  | .subL => [0x95]
  | .subAtHl => [0x96]
  | .subA => [0x97]
  | .sbcAB => [0x98]
  | .sbcAC => [0x99]
  | .sbcAD => [0x9A]
  | .sbcAE => [0x9B]
  | .sbcAH => [0x9C]
  | .sbcAL => [0x9D]
  | .sbcAAtHl => [0x9E]
  | .sbcAA => [0x9F]
  | .andB => [0xA0]
  | .andC => [0xA1]
  | .andD => [0xA2]
  | .andE => [0xA3]
  | .andH => [0xA4]
  | .andL => [0xA5]
  | .andAtHl => [0xA6]
  | .andA => [0xA7]
  | .xorB => [0xA8]
  | .xorC => [0xA9]
  | .xorD => [0xAA]
  | .xorE => [0xAB]
  | .xorH => [0xAC]
  | .xorL => [0xAD]
  | .xorAtHl => [0xAE]
  | .xorA => [0xAF]
  | .orB => [0xB0]
  | .orC => [0xB1]
  | .orD => [0xB2]
  | .orE => [0xB3]
  | .orH => [0xB4]
  | .orL => [0xB5]
  | .orAtHl => [0xB6]
  | .orA => [0xB7]
  | .cpB => [0xB8]
  | .cpC => [0xB9]
  | .cpD => [0xBA]
  | .cpE => [0xBB]
  | .cpH => [0xBC]
  | .cpL => [0xBD]
  | .cpAtHl => [0xBE]
  | .cpA => [0xBF]
  | .retNz => [0xC0]
  | .popBc => [0xC1]
  | .jpNzNn nn => [0xC2, Machine.loByte nn, Machine.hiByte nn]
  | .jpNn nn => [0xC3, Machine.loByte nn, Machine.hiByte nn]
  | .callNzNn nn => [0xC4, Machine.loByte nn, Machine.hiByte nn]
  | .pushBc => [0xC5]
  | .addAN n => [0xC6, n]
  | .rst00h => [0xC7]
  | .retZ => [0xC8]
  | .ret => [0xC9]
  | .jpZNn nn => [0xCA, Machine.loByte nn, Machine.hiByte nn]
  | .prefixCb op2 => [0xCB, op2]
  | .callZNn nn => [0xCC, Machine.loByte nn, Machine.hiByte nn]
  | .callNn nn => [0xCD, Machine.loByte nn, Machine.hiByte nn]
  | .adcAN n => [0xCE, n]
  | .rst08h => [0xCF]
  | .retNc => [0xD0]
  | .popDe => [0xD1]
  | .jpNcNn nn => [0xD2, Machine.loByte nn, Machine.hiByte nn]
  | .illegal op => [op]
  | .callNcNn nn => [0xD4, Machine.loByte nn, Machine.hiByte nn]
  | .pushDe => [0xD5]
  | .subN n => [0xD6, n]
  | .rst10h => [0xD7]
  | .retC => [0xD8]
  | .reti => [0xD9]
  | .jpCNn nn => [0xDA, Machine.loByte nn, Machine.hiByte nn]
  | .callCNn nn => [0xDC, Machine.loByte nn, Machine.hiByte nn]
  | .sbcAN n => [0xDE, n]
  | .rst18h => [0xDF]
  | .ldhAtNA n => [0xE0, n]
  | .popHl => [0xE1]
  | .ldAtCA => [0xE2]
  | .pushHl => [0xE5]
  | .andN n => [0xE6, n]
  | .rst20h => [0xE7]
  | .addSpRel e => [0xE8, e]
  | .jpHl => [0xE9]
  | .ldAtNnA nn => [0xEA, Machine.loByte nn, Machine.hiByte nn]
  | .xorN n => [0xEE, n]
  | .rst28h => [0xEF]
  | .ldhAAtN n => [0xF0, n]
  | .popAf => [0xF1]
  | .ldAAtC => [0xF2]
  | .di => [0xF3]
  | .pushAf => [0xF5]
  | .orN n => [0xF6, n]
  | .rst30h => [0xF7]
  | .ldHlSpRel e => [0xF8, e]
  | .ldSpHl => [0xF9]
  | .ldAAtNn nn => [0xFA, Machine.loByte nn, Machine.hiByte nn]
  | .ei => [0xFB]
  | .cpN n => [0xFE, n]
  | .rst38h => [0xFF]
  | .rlcB => [0xCB, 0x00]
  | .rlcC => [0xCB, 0x01]
  | .rlcD => [0xCB, 0x02]
  | .rlcE => [0xCB, 0x03]
  | .rlcH => [0xCB, 0x04]
  | .rlcL => [0xCB, 0x05]
  | .rlcAtHl => [0xCB, 0x06]
  | .rlcA => [0xCB, 0x07]
  | .rrcB => [0xCB, 0x08]
  | .rrcC => [0xCB, 0x09]
  | .rrcD => [0xCB, 0x0A]
  | .rrcE => [0xCB, 0x0B]
  | .rrcH => [0xCB, 0x0C]
  | .rrcL => [0xCB, 0x0D]
  | .rrcAtHl => [0xCB, 0x0E]
  | .rrcA => [0xCB, 0x0F]
  | .rlB => [0xCB, 0x10]
  | .rlC => [0xCB, 0x11]
  | .rlD => [0xCB, 0x12]
  | .rlE => [0xCB, 0x13]
  | .rlH => [0xCB, 0x14]
  | .rlL => [0xCB, 0x15]
  | .rlAtHl => [0xCB, 0x16]
  | .rlA => [0xCB, 0x17]
  | .rrB => [0xCB, 0x18]
  | .rrC => [0xCB, 0x19]
  | .rrD => [0xCB, 0x1A]
  | .rrE => [0xCB, 0x1B]
  | .rrH => [0xCB, 0x1C]
  | .rrL => [0xCB, 0x1D]
  | .rrAtHl => [0xCB, 0x1E]
  | .rrA => [0xCB, 0x1F]
  | .slaB => [0xCB, 0x20]
  | .slaC => [0xCB, 0x21]
  | .slaD => [0xCB, 0x22]
  | .slaE => [0xCB, 0x23]
  | .slaH => [0xCB, 0x24]
  | .slaL => [0xCB, 0x25]
  | .slaAtHl => [0xCB, 0x26]
  | .slaA => [0xCB, 0x27]
  | .sraB => [0xCB, 0x28]
  | .sraC => [0xCB, 0x29]
  | .sraD => [0xCB, 0x2A]
  | .sraE => [0xCB, 0x2B]
  | .sraH => [0xCB, 0x2C]
  | .sraL => [0xCB, 0x2D]
  | .sraAtHl => [0xCB, 0x2E]
  | .sraA => [0xCB, 0x2F]
  | .swapB => [0xCB, 0x30]
  | .swapC => [0xCB, 0x31]
  | .swapD => [0xCB, 0x32]
  | .swapE => [0xCB, 0x33]
  | .swapH => [0xCB, 0x34]
  | .swapL => [0xCB, 0x35]
  | .swapAtHl => [0xCB, 0x36]
  | .swapA => [0xCB, 0x37]
  | .srlB => [0xCB, 0x38]
  | .srlC => [0xCB, 0x39]
  | .srlD => [0xCB, 0x3A]
  | .srlE => [0xCB, 0x3B]
  | .srlH => [0xCB, 0x3C]
  | .srlL => [0xCB, 0x3D]
  | .srlAtHl => [0xCB, 0x3E]
  | .srlA => [0xCB, 0x3F]
  | .bit0B => [0xCB, 0x40]
  | .bit0C => [0xCB, 0x41]
  | .bit0D => [0xCB, 0x42]
  | .bit0E => [0xCB, 0x43]
  | .bit0H => [0xCB, 0x44]
  | .bit0L => [0xCB, 0x45]
  | .bit0AtHl => [0xCB, 0x46]
  | .bit0A => [0xCB, 0x47]
  | .bit1B => [0xCB, 0x48]
  | .bit1C => [0xCB, 0x49]
  | .bit1D => [0xCB, 0x4A]
  | .bit1E => [0xCB, 0x4B]
  | .bit1H => [0xCB, 0x4C]
  | .bit1L => [0xCB, 0x4D]
  | .bit1AtHl => [0xCB, 0x4E]
  | .bit1A => [0xCB, 0x4F]
  | .bit2B => [0xCB, 0x50]
  | .bit2C => [0xCB, 0x51]
  | .bit2D => [0xCB, 0x52]
  | .bit2E => [0xCB, 0x53]
  | .bit2H => [0xCB, 0x54]
  | .bit2L => [0xCB, 0x55]
  | .bit2AtHl => [0xCB, 0x56]
  | .bit2A => [0xCB, 0x57]
  | .bit3B => [0xCB, 0x58]
  | .bit3C => [0xCB, 0x59]
  | .bit3D => [0xCB, 0x5A]
  | .bit3E => [0xCB, 0x5B]
  | .bit3H => [0xCB, 0x5C]
  | .bit3L => [0xCB, 0x5D]
  | .bit3AtHl => [0xCB, 0x5E]
  | .bit3A => [0xCB, 0x5F]
  | .bit4B => [0xCB, 0x60]
  | .bit4C => [0xCB, 0x61]
  | .bit4D => [0xCB, 0x62]
  | .bit4E => [0xCB, 0x63]
  | .bit4H => [0xCB, 0x64]
  | .bit4L => [0xCB, 0x65]
  | .bit4AtHl => [0xCB, 0x66]
  | .bit4A => [0xCB, 0x67]
  | .bit5B => [0xCB, 0x68]
  | .bit5C => [0xCB, 0x69]
  | .bit5D => [0xCB, 0x6A]
  | .bit5E => [0xCB, 0x6B]
  | .bit5H => [0xCB, 0x6C]
  | .bit5L => [0xCB, 0x6D]
  | .bit5AtHl => [0xCB, 0x6E]
  | .bit5A => [0xCB, 0x6F]
  | .bit6B => [0xCB, 0x70]
  | .bit6C => [0xCB, 0x71]
  | .bit6D => [0xCB, 0x72]
  | .bit6E => [0xCB, 0x73]
  | .bit6H => [0xCB, 0x74]
  | .bit6L => [0xCB, 0x75]
  | .bit6AtHl => [0xCB, 0x76]
  | .bit6A => [0xCB, 0x77]
  | .bit7B => [0xCB, 0x78]
  | .bit7C => [0xCB, 0x79]
  | .bit7D => [0xCB, 0x7A]
  | .bit7E => [0xCB, 0x7B]
  | .bit7H => [0xCB, 0x7C]
  | .bit7L => [0xCB, 0x7D]
  | .bit7AtHl => [0xCB, 0x7E]
  | .bit7A => [0xCB, 0x7F]
  | .res0B => [0xCB, 0x80]
  | .res0C => [0xCB, 0x81]
  | .res0D => [0xCB, 0x82]
  | .res0E => [0xCB, 0x83]
  | .res0H => [0xCB, 0x84]
  | .res0L => [0xCB, 0x85]
  | .res0AtHl => [0xCB, 0x86]
  | .res0A => [0xCB, 0x87]
  | .res1B => [0xCB, 0x88]
  | .res1C => [0xCB, 0x89]
  | .res1D => [0xCB, 0x8A]
  | .res1E => [0xCB, 0x8B]
  | .res1H => [0xCB, 0x8C]
  | .res1L => [0xCB, 0x8D]
  | .res1AtHl => [0xCB, 0x8E]
  | .res1A => [0xCB, 0x8F]
  | .res2B => [0xCB, 0x90]
  | .res2C => [0xCB, 0x91]
  | .res2D => [0xCB, 0x92]
  | .res2E => [0xCB, 0x93]
  | .res2H => [0xCB, 0x94]
  | .res2L => [0xCB, 0x95]
  | .res2AtHl => [0xCB, 0x96]
  | .res2A => [0xCB, 0x97]
  | .res3B => [0xCB, 0x98]
  | .res3C => [0xCB, 0x99]
  | .res3D => [0xCB, 0x9A]
  | .res3E => [0xCB, 0x9B]
  | .res3H => [0xCB, 0x9C]
  | .res3L => [0xCB, 0x9D]
  | .res3AtHl => [0xCB, 0x9E]
  | .res3A => [0xCB, 0x9F]
  | .res4B => [0xCB, 0xA0]
  | .res4C => [0xCB, 0xA1]
  | .res4D => [0xCB, 0xA2]
  | .res4E => [0xCB, 0xA3]
  | .res4H => [0xCB, 0xA4]
  | .res4L => [0xCB, 0xA5]
  | .res4AtHl => [0xCB, 0xA6]
  | .res4A => [0xCB, 0xA7]
  | .res5B => [0xCB, 0xA8]
  | .res5C => [0xCB, 0xA9]
  | .res5D => [0xCB, 0xAA]
  | .res5E => [0xCB, 0xAB]
  | .res5H => [0xCB, 0xAC]
  | .res5L => [0xCB, 0xAD]
  | .res5AtHl => [0xCB, 0xAE]
  | .res5A => [0xCB, 0xAF]
  | .res6B => [0xCB, 0xB0]
  | .res6C => [0xCB, 0xB1]
  | .res6D => [0xCB, 0xB2]
  | .res6E => [0xCB, 0xB3]
  | .res6H => [0xCB, 0xB4]
  | .res6L => [0xCB, 0xB5]
  | .res6AtHl => [0xCB, 0xB6]
  | .res6A => [0xCB, 0xB7]
  | .res7B => [0xCB, 0xB8]
  | .res7C => [0xCB, 0xB9]
  | .res7D => [0xCB, 0xBA]
  | .res7E => [0xCB, 0xBB]
  | .res7H => [0xCB, 0xBC]
  | .res7L => [0xCB, 0xBD]
  | .res7AtHl => [0xCB, 0xBE]
  | .res7A => [0xCB, 0xBF]
  | .set0B => [0xCB, 0xC0]
  | .set0C => [0xCB, 0xC1]
  | .set0D => [0xCB, 0xC2]
  | .set0E => [0xCB, 0xC3]
  | .set0H => [0xCB, 0xC4]
  | .set0L => [0xCB, 0xC5]
  | .set0AtHl => [0xCB, 0xC6]
  | .set0A => [0xCB, 0xC7]
  | .set1B => [0xCB, 0xC8]
  | .set1C => [0xCB, 0xC9]
  | .set1D => [0xCB, 0xCA]
  | .set1E => [0xCB, 0xCB]
  | .set1H => [0xCB, 0xCC]
  | .set1L => [0xCB, 0xCD]
  | .set1AtHl => [0xCB, 0xCE]
  | .set1A => [0xCB, 0xCF]
  | .set2B => [0xCB, 0xD0]
  | .set2C => [0xCB, 0xD1]
  | .set2D => [0xCB, 0xD2]
  | .set2E => [0xCB, 0xD3]
  | .set2H => [0xCB, 0xD4]
  | .set2L => [0xCB, 0xD5]
  | .set2AtHl => [0xCB, 0xD6]
  | .set2A => [0xCB, 0xD7]
  | .set3B => [0xCB, 0xD8]
  | .set3C => [0xCB, 0xD9]
  | .set3D => [0xCB, 0xDA]
  | .set3E => [0xCB, 0xDB]
  | .set3H => [0xCB, 0xDC]
  | .set3L => [0xCB, 0xDD]
  | .set3AtHl => [0xCB, 0xDE]
  | .set3A => [0xCB, 0xDF]
  | .set4B => [0xCB, 0xE0]
  | .set4C => [0xCB, 0xE1]
  | .set4D => [0xCB, 0xE2]
  | .set4E => [0xCB, 0xE3]
  | .set4H => [0xCB, 0xE4]
  | .set4L => [0xCB, 0xE5]
  | .set4AtHl => [0xCB, 0xE6]
  | .set4A => [0xCB, 0xE7]
  | .set5B => [0xCB, 0xE8]
  | .set5C => [0xCB, 0xE9]
  | .set5D => [0xCB, 0xEA]
  | .set5E => [0xCB, 0xEB]
  | .set5H => [0xCB, 0xEC]
  | .set5L => [0xCB, 0xED]
  | .set5AtHl => [0xCB, 0xEE]
  | .set5A => [0xCB, 0xEF]
  | .set6B => [0xCB, 0xF0]
  | .set6C => [0xCB, 0xF1]
  | .set6D => [0xCB, 0xF2]
  | .set6E => [0xCB, 0xF3]
  | .set6H => [0xCB, 0xF4]
  | .set6L => [0xCB, 0xF5]
  | .set6AtHl => [0xCB, 0xF6]
  | .set6A => [0xCB, 0xF7]
  | .set7B => [0xCB, 0xF8]
  | .set7C => [0xCB, 0xF9]
  | .set7D => [0xCB, 0xFA]
  | .set7E => [0xCB, 0xFB]
  | .set7H => [0xCB, 0xFC]
  | .set7L => [0xCB, 0xFD]
  | .set7AtHl => [0xCB, 0xFE]
  | .set7A => [0xCB, 0xFF]

/-! ## The words of the opcode table -/

/-- The bytes of a table word, the first at the lowest address, up to the longest instruction (three bytes); bits the
table does not give are 0. A word of more than 8 bits whose bits 15 to 8 are 0xCB is an extended row, which the table
numbers with the prefix in the upper byte ("match": "0xCBxx"); any other word has its first byte in bits 7 to 0 (DEDUCED, log entry 8). -/
def tableBytes (nbits w : Nat) : List Byte :=
  let v := w % 2 ^ nbits
  if 8 < nbits ∧ v / 256 = 0xCB then [0xCB, BitVec.ofNat 8 v, 0x00]
  else [BitVec.ofNat 8 v, BitVec.ofNat 8 (v / 256), BitVec.ofNat 8 (v / 65536)]

/-- The instruction the decoder reads from a table word, at the default STOP_LENGTH of R8. -/
def decodeTableWord (nbits w : Nat) : Option Instr :=
  match decode Params.default.stopLength (tableBytes nbits w) with
  | .ok (i, _) => some i
  | .error _ => none

end Sys2Proof
end

