-- ==== Sys2Proof/Machine/Fetch.lean ====
section
/-! DEFINITION. Fetching one instruction (30_encoding.md R92): every byte comes from the memory port at PC, one access a
byte, PC advanced past each, and the row of the opcode says how many bytes there are. Also placing a word where the
next instruction is fetched, which stands for loading a program (DESIGN CHOICE, log entry 12). -/

namespace Sys2Proof.Machine

/-- `FetchByte()` (R92): the byte at PC, PC advanced, and the point after the access. -/
def State.fetchByte (s : State) : Byte × State :=
  (s.memRead s.pc, (s.setPc (s.pc + 1)).afterAccess)

/-- `FetchWord()` (R92): the low byte first (R84). -/
def State.fetchWord (s : State) : Word × State :=
  let lo := s.fetchByte
  let hi := lo.2.fetchByte
  (join hi.1 lo.1, hi.2)

/-- The instruction at PC and the state when its Operation runs, `PC = pc0 + length` (R92, R26). -/
def State.fetch (s : State) : Instr × State :=
  let op := s.fetchByte
  match primaryRow op.1 with
  | .op i => (i, op.2)
  | .opN f =>
    let n := op.2.fetchByte
    (f n.1, n.2)
  | .opNn f =>
    let nn := op.2.fetchWord
    (f nn.1, nn.2)
  | .cbPrefix =>
    let op2 := op.2.fetchByte
    (extendedRow op2.1, op2.2)
  | .stop =>
    match s.cfg.stopLength with
    | .one => (.stop, op.2)
    | .two => (.stop, op.2.fetchByte.2)

/-- The three bytes the port gives at PC and after it, as many as the longest instruction has. -/
def State.bytesAtPc (s : State) : List Byte :=
  [s.memRead s.pc, s.memRead (s.pc + 1), s.memRead (s.pc + 2)]

/-- The byte that a read of `a` gives, set from outside the machine: in the overlay store while it is visible at `a`
(under either BOOT_OVERLAY_WRITES), else in memory. -/
def State.placeByte (s : State) (a : Word) (v : Byte) : State :=
  if s.inOverlay a then { s with boot := s.boot.set (bootIndex a).val v (bootIndex a).isLt }
  else { s with mem := Memory.write s.mem a.toNat v }

/-- Bytes set one after another from `a` on (R55: addresses wrap). -/
def State.placeBytes (s : State) (a : Word) : List Byte → State
  | [] => s
  | v :: vs => (s.placeByte a v).placeBytes (a + 1) vs

/-- A table word placed at PC, the core active, and no act of the environment due, so that the next round fetches and
runs exactly it. -/
def State.placeWord (s : State) (nbits w : Nat) : State :=
  { s.placeBytes s.pc (tableBytes nbits w) with mode := .active, env := [] }

end Sys2Proof.Machine
end

