-- ==== Sys2Proof/Machine/Step.lean ====
section
/-! DEFINITION. One round of the driver loop (60_exceptions.md R307), and the word placed where the next round fetches.
What the round does is defined in Ops.lean and Fetch.lean; this file only puts it together with exec. -/

namespace Sys2Proof.Machine

/-- `Step()` of R307 for an Active or Halted core, the environment's writes before the round already landed: in Active
one instruction is fetched and executed and the round is ended; in Halted the round idles; in any other mode nothing
is done. -/
def State.round (s : State) : Host.Outcome State Fault Refusal :=
  match s.mode with
  | .active =>
    match exec s.fetch.1 s.fetch.2 with
    | .next t => .next t.endRound
    | .fault r => .fault r
    | .refused r => .refused r
  | .halted => .next s.idleRound
  | _ => .next s

/-- One step of the machine: what the environment does between the rounds lands (R63, R349), then the round. Where
`Step()` does nothing (Stopped, Exited, Fault), the whole state stays as it is (R300, R307, R319, R320). -/
def step (s : State) : Host.Outcome State Fault Refusal :=
  match s.mode with
  | .active => s.landEnv.round
  | .halted => s.landEnv.round
  | _ => .next s

/-- The state with a table word at PC, so that the next step fetches and runs exactly it (DESIGN CHOICE, log entry 12). -/
def State.withFetchWord (s : State) (nbits w : Nat) : State := s.placeWord nbits w

end Sys2Proof.Machine
end

