-- ==== Sys2Proof/Machine/HostOps.lean ====
section
/-! DEFINITION. The host's side of the machine (60_exceptions.md R307, 70_reset_and_hazards.md R340 to R344): a launch
begins with Reset(), may load one cartridge, and then runs rounds, with environment writes and posted requests between
them; Observe() shows what the spec lets the host see. Operations out of that order are refused (DESIGN CHOICE, log entry 13). -/

namespace Sys2Proof.Machine

/-- Where a launch stands (R343): after Reset, after the one cartridge, in its rounds, or over. The rounds of step 3 begin
with the first Step, or with an environment write or a posted request before it, which belong to step 3 (DESIGN CHOICE,
log entry 13). -/
inductive Phase where
  | fresh
  | loaded
  | running
  | failed
  deriving DecidableEq, Repr

/-- The host's operations (R307). -/
inductive HostOp where
  | reset
  | loadCartridge (bytes : List Byte)
  | step
  | postInterrupt (k : IrqSource)
  | envWrite (addr : Word) (v : Byte)
  deriving DecidableEq, Repr

/-- A launch: its parameters, where it stands, and the machine. -/
structure Session where
  launch : Launch
  phase : Phase
  state : State
  deriving DecidableEq, Repr

/-- A launch begins with Reset() (R343, step 1). -/
def Session.start (l : Launch) : Session :=
  { launch := l, phase := .fresh, state := State.resetWith l }

/-- The largest cartridge image, in bytes (R344). -/
def maxCartridge : Nat := 32768

/-- The copy of LoadCartridge: bytes written from 0x0000 on into the array itself, bypassing the overlay (R344). -/
def State.loadImage (s : State) (bytes : List Byte) : State :=
  { s with mem := Memory.writeAll s.mem 0 bytes }

/-- The launch in its rounds (step 3 of R343), the machine at `s`. -/
def Session.proceed (x : Session) (s : State) : Session := { x with phase := .running, state := s }

/-- One operation of the host. A refused operation changes nothing; a cartridge that is too large also ends the launch
(R344), which `Session.after` records. -/
def Session.apply (x : Session) (op : HostOp) : Host.Outcome Session Fault Refusal :=
  match x.phase with
  | .failed => .refused .launchFailed
  | _ =>
    match op with
    | .reset =>
      match x.phase with
      | .running => .refused .launchAlreadyRunning
      | _ => .next (Session.start x.launch)
    | .loadCartridge bytes =>
      match x.phase with
      | .running => .refused .launchAlreadyRunning
      | .loaded => .refused .secondCartridge
      | _ =>
        if maxCartridge < bytes.length then .refused .cartridgeTooLarge
        else .next { x with phase := .loaded, state := x.state.loadImage bytes }
    | .step =>
      match Machine.step x.state with
      | .next s => .next (x.proceed s)
      | .fault r => .fault r
      | .refused r => .refused r
    | .postInterrupt k => .next (x.proceed (x.state.postInterrupt k))
    | .envWrite a v => .next (x.proceed (x.state.envWrite a v))

/-- The launch after an operation: what `apply` answers, or, where it refuses, the launch as it was, marked failed by a
cartridge that is too large ("the launch then does not run", R344). -/
def Session.after (x : Session) (op : HostOp) : Session :=
  match x.apply op with
  | .next y => y
  | .fault _ => x
  | .refused .cartridgeTooLarge => { x with phase := .failed }
  | .refused _ => x

/-- What Observe() returns (R307): the register file, IME, mode, the memory bytes and `total_cycles`. -/
structure Observation where
  a : Byte
  f : Byte
  b : Byte
  c : Byte
  d : Byte
  e : Byte
  h : Byte
  l : Byte
  sp : Word
  pc : Word
  ime : Bool
  mode : Mode
  mem : Memory
  totalCycles : Nat
  deriving DecidableEq, Repr

/-- `Observe()` (R307). -/
def State.observe (s : State) : Observation :=
  { a := s.a, f := s.f, b := s.b, c := s.c, d := s.d, e := s.e, h := s.h, l := s.l
    sp := s.sp, pc := s.pc, ime := s.ime, mode := s.mode, mem := s.mem, totalCycles := s.totalCycles }

end Sys2Proof.Machine
end

