-- ==== Sys2Proof/Safety.lean ====
section
/-! DEFINITION. What counts as a run and as a safe end of one (70_reset_and_hazards.md R347), and the launch premises a
claim may name (R351). A decode fault is a failed end: it gives no observation, so nothing read after it may be taken
for a result (R300). -/

namespace Sys2Proof.Machine

/-- How a run stands after a round (R347): not at an end, at a normal end (a Exited, b Stopped), or at the failed end
(c Fault). -/
inductive RunEnd where
  | running
  | normal
  | failed
  deriving DecidableEq, Repr

/-- The end a mode means (R347 a to c). -/
def Mode.runEnd : Mode → RunEnd
  | .active => .running
  | .halted => .running
  | .exited => .normal
  | .stopped => .normal
  | .fault _ _ => .failed

/-- `N` rounds (R347 d): the state they leave, if every round answers one. -/
def State.after : Nat → State → Option State
  | 0, s => some s
  | n + 1, s =>
    match step s with
    | .next t => State.after n t
    | .fault _ => none
    | .refused _ => none

/-- The observation a run of `N` rounds ends with: none if it failed (R347: "Case (c) gives no observation"). -/
def State.runObservation (n : Nat) (s : State) : Option Observation :=
  match State.after n s with
  | none => none
  | some t =>
    match t.mode.runEnd with
    | .failed => none
    | _ => some t.observe

/-- A run is safe as far as round `N` when no decode fault has been recorded (R300, R347). -/
def State.safeFor (n : Nat) (s : State) : Prop :=
  ∃ t, State.after n s = some t ∧ t.mode.runEnd ≠ .failed

/-! ## The invariant of the machine -/

/-- What every step keeps: memory in its canonical form, the low nibble of F zero (R22), and no pending EI where
EI_DELAY is 0 ("always `none` and not state", R32). -/
def State.Inv (s : State) : Prop :=
  s.mem.wf = true ∧ s.f &&& 0x0F = 0x00 ∧
    (s.cfg.eiDelay = Config.EiDelay.zero → s.eiPending = EiPending.none)

/-! ## Launch premises (R351) -/

/-- `clean_reset(mode)`: the state of R340 or R341, as the mode says. The acts of the environment to come are inputs of the
run (R349) and no part of that state, so any may stand in `env`; that none or no request comes is a premise of its own. -/
def State.cleanReset (mode : Config.ResetMode) (s : State) : Prop :=
  ∃ l : Launch, l.params.resetMode = mode ∧ s = { State.resetWith l with env := s.env }

/-- `no_fault`. -/
def State.noFault (s : State) : Prop := s.mode.runEnd ≠ .failed

/-- `no_pending_ei`. -/
def State.noPendingEi (s : State) : Prop := s.eiPending = .none

/-- An act that posts an interrupt request (R306). -/
def EnvAct.isPost : EnvAct → Bool
  | .post _ => true
  | .write _ _ => false

/-- `interrupts_quiet`: nothing pending and enabled, and no PostInterrupt among the acts of the run still to come; writes of
memory bytes may be among them. A run of State.after has no other acts. -/
def State.interruptsQuiet (s : State) : Prop :=
  s.pendingEnabled = 0x00 ∧ ∀ acts ∈ s.env, ∀ act ∈ acts, act.isPost = false

/-- No act of the environment can land inside an instruction: ENV_WRITE_POINTS is `round`, or none is to come (R63). -/
def State.quietEnv (s : State) : Prop :=
  s.cfg.envWritePoints = Config.EnvWritePoints.round ∨ s.env = []

/-- `overlay_off`. -/
def State.overlayOff (s : State) : Prop := s.memRead latchAddr ≠ 0x00

end Sys2Proof.Machine
end

