-- ==== Sys2Proof/Certificates/Slice0/Obligations.lean ====
section
/-! DEFINITION. The statements for the provers. Each names in its docstring the rule of spec/ it formalises, or, where it
rests on a choice of the model, the log entry. The words of Sys2Proof.Claims say what the statements share: that bytes
decode to an instruction which runs to a given state, the spec's sums and flags written over numbers, and the columns
of the opcode table read from an instruction's own bytes. -/

namespace Sys2Proof.Claims

open Sys2Proof.Machine

/-! ## Words the statements share -/

/-- The bytes are, whole, an instruction, and exec of it at `s` ANSWERS the next state `t`. -/
def Runs (bytes : List Byte) (s t : State) : Prop :=
  ∃ i, decode s.cfg.stopLength bytes = .ok (i, []) ∧ exec i s = .next t

/-- The state with `n` cycles counted (R31). -/
def spent (s : State) (n : Nat) : State := { s with stepCycles := n, totalCycles := s.totalCycles + n }

/-- F with the four flags in bits 7 to 4 and zeros below (R21). -/
def fByte (z n h c : Bool) : Byte :=
  BitVec.ofNat 8 ((if z then 128 else 0) + (if n then 64 else 0) + (if h then 32 else 0) + (if c then 16 else 0))

/-- F.Z, F.N, F.H, F.C of a flag byte (R21). -/
def zOf (f : Byte) : Bool := f.getLsbD 7
def nOf (f : Byte) : Bool := f.getLsbD 6
def hOf (f : Byte) : Bool := f.getLsbD 5
def cOf (f : Byte) : Bool := f.getLsbD 4

/-- The carry flag as a number, if it is used at all. -/
def carryIn (use : Bool) (f : Byte) : Nat := if use && cOf f then 1 else 0

/-- F after an 8-bit addition of `a`, `b` and a carry-in (R101). -/
def sumF (a b cin : Nat) : Byte :=
  fByte (decide ((a + b + cin) % 256 = 0)) false (decide (a % 16 + b % 16 + cin > 15)) (decide (a + b + cin > 255))

/-- F after an 8-bit subtraction of `b` and a borrow-in from `a` under a SUB_HALF_READING (R103). -/
def differenceF (reading : Config.SubHalfReading) (a b bin : Nat) : Byte :=
  fByte (decide ((a + 512 - b - bin) % 256 = 0)) true
    (match reading with
      | .nibblePlusBorrow => decide (a % 16 < b % 16 + bin)
      | .nibbleOfSum => decide (a % 16 < (b + bin) % 16))
    (decide (a < b + bin))

/-- F after a 16-bit addition, the half-carry out of bit 7 and Z from the result (R102). -/
def sumF16 (a b : Nat) : Byte :=
  fByte (decide ((a + b) % 65536 = 0)) false (decide (a % 256 + b % 256 > 255)) (decide (a + b > 65535))

/-- F after SP + e under a FLAG16_MODE (R109). -/
def spRelF (mode : Config.Flag16Mode) (sp e : Nat) (sext : Nat) : Byte :=
  match mode with
  | .source => sumF16 sp sext
  | .lr35902 => fByte false false (decide (sp % 16 + e % 16 > 15)) (decide (sp % 256 + e > 255))

/-- The value a displacement byte adds modulo 2^16: e, or e - 256 as 65536 - 256 + e (R83). -/
def displacement (e : Byte) : Nat := if e.toNat < 128 then e.toNat else 65280 + e.toNat

/-- A condition of R88 on a flag byte. -/
def condHolds (cc : Cond) (f : Byte) : Bool :=
  match cc with
  | .nz => !zOf f
  | .z => zOf f
  | .nc => !cOf f
  | .c => cOf f

/-- 4 cycles on a register, 8 on the byte at HL (R190). -/
def aluCycles : Place → Nat
  | .reg _ => 4
  | .atHl => 8

/-- 4 cycles on a register, 12 on the byte at HL (R215 to R218). -/
def incCycles : Place → Nat
  | .reg _ => 4
  | .atHl => 12

/-- 8 cycles on a register, 16 on the byte at HL (R244). -/
def cbCycles : Place → Nat
  | .reg _ => 8
  | .atHl => 16

/-- 8 cycles on a register, 12 on the byte at HL (R261, R262). -/
def bitCycles : Place → Nat
  | .reg _ => 8
  | .atHl => 12

/-- A two-digit decimal number as a BCD byte. -/
def bcd (n : Nat) : Byte := BitVec.ofNat 8 (n / 10 * 16 + n % 10)

/-- An extended rotate or shift that gives `res` and carry `c`, on a place: the operand read, F written, the operand
written back. -/
def rotated (s : State) (p : Place) (res : Byte) (c : Bool) : State :=
  spent (({ s.afterRead p with f := fByte (decide (res = 0)) false false c }).put p res) (cbCycles p)

/-- No byte pushed at `s` is dropped: a push at or above 0x0100, or the overlay hidden, or its writes redirected (R52). -/
def keepsPushed (s : State) : Prop :=
  s.cfg.bootOverlayWrites = .redirect ∨ Memory.read s.mem 0xFF50 ≠ 0 ∨
    (256 ≤ (s.sp - 1).toNat ∧ 256 ≤ (s.sp - 2).toNat)

/-- From `s` to `t` an interrupt has been taken: the core is active, IME clear, PC at the vector of the lowest request bit
that is pending and enabled at `s`, and the PC of `s` on the stack, high byte first, SP down by two (R302, R303, R308). -/
def TookInterrupt (s t : State) : Prop :=
  t.mode = .active ∧ t.ime = false ∧ t.sp = s.sp - 2 ∧
  (∃ k : Fin 5, t.pc = BitVec.ofNat 16 (0x40 + 8 * k.val) ∧ s.pendingEnabled.getLsbD k.val = true ∧
    ∀ j : Nat, j < k.val → s.pendingEnabled.getLsbD j = false) ∧
  (keepsPushed s → t.memRead (s.sp - 1) = (s.pc >>> 8).setWidth 8 ∧ t.memRead (s.sp - 2) = s.pc.setWidth 8)

/-! ## What an instruction's bytes say of it (R81, R95, R96) -/

/-- The register of a 3-bit code, none for code 6 (R85). -/
def codeRegs (z : Nat) : List Reg8 :=
  [[Reg8.b], [Reg8.c], [Reg8.d], [Reg8.e], [Reg8.h], [Reg8.l], [], [Reg8.a]].getD z []

/-- The registers of a pair code, none for the last (SP in R86; AF's A is added where it is meant). -/
def codePair (p : Nat) : List Reg8 :=
  [[Reg8.b, Reg8.c], [Reg8.d, Reg8.e], [Reg8.h, Reg8.l], []].getD p []

/-- The general registers an instruction may write, from the fields of its bytes. -/
def destRegs : List Byte → List Reg8
  | [] => []
  | op :: rest =>
    let x := op.toNat / 64
    let y := op.toNat / 8 % 8
    let z := op.toNat % 8
    if op = 0xCB then
      let op2 := (rest.headD 0).toNat
      if op2 / 64 = 1 then [] else codeRegs (op2 % 8)
    else if x = 0 then
      if z = 1 then (if y % 2 = 0 then codePair (y / 2) else [.h, .l])
      else if z = 2 then (if y % 2 = 1 then [.a] else []) ++ (if 4 ≤ y then [.h, .l] else [])
      else if z = 3 then codePair (y / 2)
      else if z = 4 ∨ z = 5 ∨ z = 6 then codeRegs y
      else if z = 7 then (if y < 6 then [.a] else [])
      else []
    else if x = 1 then (if op = 0x76 then [] else codeRegs y)
    else if x = 2 then (if y = 7 then [] else [.a])
    else if z = 0 then (if y = 6 then [.a] else if y = 7 then [.h, .l] else [])
    else if z = 1 then (if y % 2 = 1 then [] else if y = 6 then [.a] else codePair (y / 2))
    else if z = 2 then (if 6 ≤ y then [.a] else [])
    else if z = 6 then (if y = 7 then [] else [.a])
    else []

/-- One entry of the flags column: unchanged, constant, or computed. -/
inductive FlagEffect where
  | keep | zero | one | computed
  deriving DecidableEq, Repr

/-- What an entry says of a flag before and after. -/
def FlagEffect.holds : FlagEffect → Bool → Bool → Prop
  | .keep, old, new => new = old
  | .zero, _, new => new = false
  | .one, _, new => new = true
  | .computed, _, _ => True

/-- A row of the flags column, in the order Z N H C. -/
structure FlagColumn where
  z : FlagEffect
  n : FlagEffect
  h : FlagEffect
  c : FlagEffect
  deriving DecidableEq, Repr

/-- The row of an instruction that writes no flag. -/
def silent : FlagColumn := ⟨.keep, .keep, .keep, .keep⟩

/-- The flags column of the accumulator operation of a 3-bit code (R191 to R214). -/
def aluColumn (y : Nat) : FlagColumn :=
  if y ≤ 1 then ⟨.computed, .zero, .computed, .computed⟩
  else if y = 4 then ⟨.computed, .zero, .one, .zero⟩
  else if y = 5 ∨ y = 6 then ⟨.computed, .zero, .zero, .zero⟩
  else ⟨.computed, .one, .computed, .computed⟩

/-- The flags column of the opcode table, from the fields of an instruction's bytes. -/
def flagColumn : List Byte → FlagColumn
  | [] => silent
  | op :: rest =>
    let x := op.toNat / 64
    let y := op.toNat / 8 % 8
    let z := op.toNat % 8
    if op = 0xCB then
      let op2 := (rest.headD 0).toNat
      if op2 / 64 = 0 then ⟨.computed, .zero, .zero, if op2 / 8 % 8 = 6 then .zero else .computed⟩
      else if op2 / 64 = 1 then ⟨.computed, .zero, .one, .keep⟩
      else silent
    else if x = 0 then
      if z = 1 ∧ y % 2 = 1 then ⟨.computed, .zero, .computed, .computed⟩
      else if z = 4 then ⟨.computed, .zero, .computed, .keep⟩
      else if z = 5 then ⟨.computed, .one, .computed, .keep⟩
      else if z = 7 then
        (if y ≤ 3 then ⟨.zero, .zero, .zero, .computed⟩
        else if y = 4 then ⟨.computed, .keep, .zero, .computed⟩
        else if y = 5 then ⟨.keep, .one, .one, .keep⟩
        else if y = 6 then ⟨.keep, .zero, .zero, .one⟩
        else ⟨.keep, .zero, .zero, .computed⟩)
      else silent
    else if x = 1 then silent
    else if x = 2 ∨ z = 6 then aluColumn y
    else if z = 0 ∧ (y = 5 ∨ y = 7) then ⟨.computed, .zero, .computed, .computed⟩
    else if op = 0xF1 then ⟨.computed, .computed, .computed, .computed⟩
    else silent

/-- The 16-bit immediate of an instruction's bytes (R84). -/
def immediate16 (bytes : List Byte) : Word := join (bytes.getD 2 0) (bytes.getD 1 0)

/-- The two bytes below the stack pointer, where a push stores (R59). -/
def pushed (s : State) : List Word := [s.sp - 1, s.sp - 2]

/-- The addresses an instruction stores to at a state, from the fields of its bytes. -/
def storedAt (bytes : List Byte) (s : State) : List Word :=
  match bytes with
  | [] => []
  | op :: rest =>
    let x := op.toNat / 64
    let y := op.toNat / 8 % 8
    let z := op.toNat % 8
    if op = 0xCB then
      let op2 := (rest.headD 0).toNat
      if op2 / 64 ≠ 1 ∧ op2 % 8 = 6 then [s.hl] else []
    else if x = 0 then
      if op = 0x08 then [immediate16 bytes, immediate16 bytes + 1]
      else if op = 0x02 then [s.bc]
      else if op = 0x12 then [s.de]
      else if op = 0x22 ∨ op = 0x32 then [s.hl]
      else if (z = 4 ∨ z = 5 ∨ z = 6) ∧ y = 6 then [s.hl]
      else []
    else if x = 1 then (if y = 6 ∧ z ≠ 6 then [s.hl] else [])
    else if x = 2 then []
    else if op = 0xE0 then [join 0xFF (bytes.getD 1 0)]
    else if op = 0xE2 then [join 0xFF s.c]
    else if op = 0xEA then [immediate16 bytes]
    else if z = 4 ∧ y ≤ 3 then
      (if condHolds ([Cond.nz, Cond.z, Cond.nc, Cond.c].getD y Cond.nz) s.f then pushed s else [])
    else if (z = 5 ∧ y % 2 = 0) ∨ op = 0xCD ∨ z = 7 then pushed s
    else []

/-- The instructions that may move SP (R25). -/
def mayMoveSp : Instr → Bool
  | .ldSpNn _ | .ldSpHl | .addSpRel _ | .incSp | .decSp => true
  | .pushBc | .pushDe | .pushHl | .pushAf | .popBc | .popDe | .popHl | .popAf => true
  | .callNn _ | .callNzNn _ | .callZNn _ | .callNcNn _ | .callCNn _ => true
  | .ret | .reti | .retNz | .retZ | .retNc | .retC => true
  | .rst00h | .rst08h | .rst10h | .rst18h | .rst20h | .rst28h | .rst30h | .rst38h => true
  | _ => false

/-- The instructions that write PC other than by sequential advance (47_control_transfer.md). -/
def mayJump : Instr → Bool
  | .jpNn _ | .jpNzNn _ | .jpZNn _ | .jpNcNn _ | .jpCNn _ | .jpHl => true
  | .jrRel _ | .jrNzRel _ | .jrZRel _ | .jrNcRel _ | .jrCRel _ => true
  | .callNn _ | .callNzNn _ | .callZNn _ | .callNcNn _ | .callCNn _ => true
  | .ret | .reti | .retNz | .retZ | .retNc | .retC => true
  | .rst00h | .rst08h | .rst10h | .rst18h | .rst20h | .rst28h | .rst30h | .rst38h => true
  | _ => false

end Sys2Proof.Claims

open Sys2Proof Sys2Proof.Machine Sys2Proof.Claims

/-! ## Encoding -/

/-- A few words written out from 30_encoding.md: 0x20 is JR NZ, 0xC5 is PUSH BC (the two opcodes the source confirms),
`01 000 001` is LD B,C (R95), `10 111 110` is CP (HL) (R89), CB `01 111 111` is BIT 7,A (R91), and 21 00 C0 is
LD HL,0xC000, little endian (R84). -/
def Obligations.SampleWordsDecode : Prop :=
  decode .two [0x20, 0xFB] = .ok (.jrNzRel 0xFB, []) ∧
  decode .two [0xC5] = .ok (.pushBc, []) ∧
  decode .two [0b01000001] = .ok (.ldBC, []) ∧
  decode .two [0b10111110] = .ok (.cpAtHl, []) ∧
  decode .two [0xCB, 0b01111111] = .ok (.bit7A, []) ∧
  decode .two [0x21, 0x00, 0xC0] = .ok (.ldHlNn 0xC000, []) ∧
  decode .two [0x10, 0xAB, 0x00] = .ok (.stop, [0x00]) ∧
  decode .one [0x10, 0xAB] = .ok (.stop, [0xAB]) ∧
  decode .two [0xD3] = .ok (.illegal 0xD3, [])

/-- Decoding the encoding of any well-formed instruction gives it back, with every immediate at every value, and leaves
the bytes after it alone, under both STOP_LENGTH values (30_encoding.md). -/
def Obligations.DecodeInvertsEncode : Prop :=
  ∀ (sl : Config.StopLength) (i : Instr) (rest : List Byte),
    i.wellFormed = true → decode sl (encode sl i ++ rest) = .ok (i, rest)

/-- Any three bytes begin with an instruction, which is well formed, and, STOP's ignored byte apart (log entry 9),
encoding it gives those bytes back: every word has one meaning and none is lost (R93, R94). -/
def Obligations.EncodeInvertsDecode : Prop :=
  ∀ (sl : Config.StopLength) (b0 b1 b2 : Byte), ∃ i rest,
    decode sl [b0, b1, b2] = .ok (i, rest) ∧ i.wellFormed = true ∧
      (b0 ≠ 0x10 → encode sl i ++ rest = [b0, b1, b2])

/-- R93: a primary opcode decodes to the unrecognized-opcode instruction exactly when it is one of the eleven, which
raises DecodeFault(op, pc0) and nothing else; and each of the 256 extended values is an instruction that raises none. -/
def Obligations.ElevenOpcodesAreUnrecognized : Prop :=
  (∀ (sl : Config.StopLength) (op b1 b2 : Byte),
    (∃ rest, decode sl [op, b1, b2] = .ok (.illegal op, rest)) ↔
      op ∈ ([0xD3, 0xDB, 0xDD, 0xE3, 0xE4, 0xEB, 0xEC, 0xED, 0xF4, 0xFC, 0xFD] : List Byte)) ∧
  (∀ (op : Byte) (s : State), exec (.illegal op) s = .next { s with mode := .fault op (s.pc - 1) }) ∧
  (∀ (op2 : Byte) (s : State), ∃ i t, decode s.cfg.stopLength [0xCB, op2] = .ok (i, []) ∧ i.wellFormed = true ∧
    exec i s = .next t ∧ t.mode = s.mode)

/-- How many bytes an instruction takes depends on its first byte and STOP_LENGTH alone (R94). -/
def Obligations.LengthDependsOnFirstByte : Prop :=
  ∀ (sl : Config.StopLength) (op : Byte) (r1 r2 l1 l2 : List Byte) (i1 i2 : Instr),
    decode sl (op :: r1) = .ok (i1, l1) → decode sl (op :: r2) = .ok (i2, l2) →
      r1.length + l2.length = r2.length + l1.length

/-- The prefix with its second byte is the extended row of that byte: the generic form, which reads the operation from
the fields of R91 and R244, and the row's own meaning are the same on every state, and both run (R125, R96; the generic
constructor is log entry 7). -/
def Obligations.PrefixRunsTheExtendedRow : Prop :=
  ∀ (op2 : Byte) (s : State),
    decode s.cfg.stopLength [0xCB, op2] = .ok (extendedRow op2, []) ∧
    exec (.prefixCb op2) s = exec (extendedRow op2) s ∧
    ∃ t, exec (.prefixCb op2) s = .next t ∧ t.pc = s.pc ∧ t.sp = s.sp ∧
      t.stepCycles = (if op2.toNat % 8 ≠ 6 then 8 else if op2.toNat / 64 = 1 then 12 else 16)

/-! ## The step -/

/-- When the bytes at PC decode to an instruction, a step of an active core is exec of it with PC past its bytes, and
then the rest of the round (R92, R307). What the environment does before the round has landed, and no act of it can land
among the fetched bytes. -/
def Obligations.StepRunsTheDecodedInstruction : Prop :=
  ∀ (s : State) (i : Instr) (rest : List Byte),
    s.mode = .active → s.landEnv.quietEnv →
    decode s.cfg.stopLength s.landEnv.bytesAtPc = .ok (i, rest) →
    step s =
      match exec i (s.landEnv.setPc (s.pc + BitVec.ofNat 16 (3 - rest.length))) with
      | .next t => .next t.endRound
      | .fault r => .fault r
      | .refused r => .refused r

/-- R121 and R122: STOP stops the core, under both lengths and whatever the ignored byte is, and a stopped core has no
step. HALT halts it and leaves PC at the address after the HALT, which is what an interrupt pushes: at once, in the poll of
HALT's own round, where IME is set and a request is pending and enabled, or in a later round. Each later round is an idle
one (R307): nothing is fetched, HALT_IDLE_CYCLES are counted, and the EI commit and the poll follow. -/
def Obligations.StopAndHaltRun : Prop :=
  ∀ (s : State) (ignored : Byte),
    (s.cfg.stopLength = .two → Runs [0x10, ignored] s (spent { s with mode := .stopped } 4)) ∧
    (s.cfg.stopLength = .one → Runs [0x10] s (spent { s with mode := .stopped } 4)) ∧
    (s.mode = .stopped → s.endRound = s ∧ step s = .next s) ∧
    Runs [0x76] s (spent { s with mode := .halted } 4) ∧
    (s.ime = true → s.pendingEnabled ≠ 0 → TookInterrupt s (spent { s with mode := .halted } 4).endRound) ∧
    (s.mode = .halted → step s = .next (spent s.landEnv s.cfg.haltIdleCycles).poll) ∧
    (s.mode = .halted → s.ime = true → s.landEnv.pendingEnabled ≠ 0 →
      TookInterrupt s.landEnv (spent s.landEnv s.cfg.haltIdleCycles).poll)

/-- In Stopped, Exited and Fault a step does nothing, so any number of rounds leave the state as it is (R307, R319,
R320), and a run that stands in Fault has no observation (R347 c). -/
def Obligations.EndedRunsStay : Prop :=
  ∀ (s : State) (n : Nat),
    (s.mode = .stopped → step s = .next s ∧ State.after n s = some s ∧ State.runObservation n s = some s.observe) ∧
    (s.mode = .exited → step s = .next s ∧ State.after n s = some s ∧ State.runObservation n s = some s.observe) ∧
    (∀ op pc, s.mode = .fault op pc →
      step s = .next s ∧ State.after n s = some s ∧ State.runObservation n s = none)

/-! ## Every instruction -/

/-- exec answers a next state for EVERY instruction at EVERY state. Unless the instruction is an unrecognized opcode, its
cycles are a whole number of fours from 4 to 24, added to the total (R31, R350); an unrecognized opcode records its fault
and changes nothing else. -/
def Obligations.EveryInstructionCompletes : Prop :=
  ∀ (i : Instr) (s : State), ∃ t, exec i s = .next t ∧
    ((∀ op, i ≠ .illegal op) →
      4 ≤ t.stepCycles ∧ t.stepCycles ≤ 24 ∧ t.stepCycles % 4 = 0 ∧
        t.totalCycles = s.totalCycles + t.stepCycles) ∧
    (∀ op, i = .illegal op → t = { s with mode := .fault op (s.pc - 1) })

/-- FRAME of the general registers: an instruction changes no register but the destinations that the fields of its own
bytes name (R85 to R91, R95, R96), HL among them where the addressing mode steps it. -/
def Obligations.RegisterFrame : Prop :=
  ∀ (i : Instr) (s t : State) (r : Reg8),
    exec i s = .next t → r ∉ destRegs (encode .two i) → t.reg r = s.reg r

/-- FRAME of F: every instruction does to each flag what the flags column of the opcode table says (kept, 0, 1 or
computed), and one that writes no flag leaves the whole byte alone (R13). The premise asks only that an unrecognized
opcode is one of the eleven. -/
def Obligations.FlagsColumnHolds : Prop :=
  ∀ (i : Instr) (s t : State), (∀ op, i = .illegal op → op ∈ illegalOpcodes) → exec i s = .next t →
    (flagColumn (encode .two i)).z.holds (zOf s.f) (zOf t.f) ∧
    (flagColumn (encode .two i)).n.holds (nOf s.f) (nOf t.f) ∧
    (flagColumn (encode .two i)).h.holds (hOf s.f) (hOf t.f) ∧
    (flagColumn (encode .two i)).c.holds (cOf s.f) (cOf t.f) ∧
    (flagColumn (encode .two i) = silent → t.f = s.f)

/-- FRAME of memory: every address but those the instruction stores to, computed as its meaning computes them, keeps its
byte in the array and in the overlay store, and reads as before. A store to the boot latch changes which of the two
0x0000 to 0x00FF read (R62, R53), so it is the exception for reading there. -/
def Obligations.MemoryFrame : Prop :=
  ∀ (i : Instr) (s t : State) (x : Word),
    s.quietEnv → exec i s = .next t → x ∉ storedAt (encode .two i) s →
    Memory.read t.mem x.toNat = Memory.read s.mem x.toNat ∧
    (∀ h : x.toNat < 256, t.boot[x.toNat] = s.boot[x.toNat]) ∧
    ((0xFF50 ∉ storedAt (encode .two i) s ∨ 0xFF < x.toNat) → t.memRead x = s.memRead x)

/-- FRAME of everything else: only HALT, STOP and an unrecognized opcode change the run state (R30); only DI, EI and RETI
change IME and the pending EI (R29, R32); only the stack instructions and the SP transfers move SP (R25); only control
transfers move PC past where the fetch left it (47_control_transfer.md); the parameters never change; and where
ENV_WRITE_POINTS is round, no act of the environment lands inside an instruction (R63). -/
def Obligations.ControlStateFrame : Prop :=
  ∀ (i : Instr) (s t : State), exec i s = .next t →
    (i ≠ .halt → i ≠ .stop → (∀ op, i ≠ .illegal op) → t.mode = s.mode) ∧
    (i ≠ .di → i ≠ .ei → i ≠ .reti → t.ime = s.ime ∧ t.eiPending = s.eiPending) ∧
    (mayMoveSp i = false → t.sp = s.sp) ∧
    (mayJump i = false → t.pc = s.pc) ∧
    t.cfg = s.cfg ∧
    (s.cfg.envWritePoints = .round → t.env = s.env)

/-! ## Control (41_control_misc.md) -/

/-- NOP, DI and EI: the Operation, flags and cycles of R120, R123 and R124, EI under both delays; and after DI the poll of
the same round dispatches nothing and changes nothing. (STOP and HALT are `StopAndHaltRun`.) -/
def Obligations.ControlInstructionsRun : Prop :=
  ∀ s : State,
    Runs [0x00] s (spent s 4) ∧
    (s.cfg.eiDelay = .zero → Runs [0xF3] s (spent { s with ime := false } 4)) ∧
    (s.cfg.eiDelay = .one → Runs [0xF3] s (spent { s with ime := false, eiPending := .none } 4)) ∧
    (s.mode = .active → ∀ t, Runs [0xF3] s t → t.endRound = t) ∧
    (s.cfg.eiDelay = .zero → Runs [0xFB] s (spent { s with ime := true } 4)) ∧
    (s.cfg.eiDelay = .one → s.eiPending = .none → Runs [0xFB] s (spent { s with eiPending := .armed } 4)) ∧
    (s.cfg.eiDelay = .one → s.eiPending ≠ .none → Runs [0xFB] s (spent s 4))

/-- R126 and R300: a step at one of the eleven opcodes records `Fault(op, pc0)`, leaves PC at pc0 + 1, changes nothing
else, polls nothing, and no later step changes anything. -/
def Obligations.UnrecognizedOpcodeFaults : Prop :=
  ∀ s : State, s.mode = .active → s.landEnv.quietEnv → s.landEnv.memRead s.pc ∈ illegalOpcodes →
    step s = .next { s.landEnv with mode := .fault (s.landEnv.memRead s.pc) s.pc, pc := s.pc + 1 } ∧
    step { s.landEnv with mode := .fault (s.landEnv.memRead s.pc) s.pc, pc := s.pc + 1 } =
      .next { s.landEnv with mode := .fault (s.landEnv.memRead s.pc) s.pc, pc := s.pc + 1 }

/-! ## Loads (42_load8.md, 43_load16_stack.md)

`afterAccess` is the point after a byte access where the environment's acts may land if ENV_WRITE_POINTS is byte (R63); at
the default it is the state itself. -/

/-- R141 to R145: LD r,r'; LD r,n; LD r,(HL); LD (HL),r; LD (HL),n, in every register. -/
def Obligations.RegisterLoadsRun : Prop :=
  ∀ (s : State) (dst src : Reg8) (n : Byte),
    Runs [0b01#2 ++ dst.code ++ src.code] s (spent (s.setReg dst (s.reg src)) 4) ∧
    Runs [0b00#2 ++ dst.code ++ 0b110#3, n] s (spent (s.setReg dst n) 8) ∧
    Runs [0b01#2 ++ dst.code ++ 0b110#3] s (spent (s.afterAccess.setReg dst (s.memRead (s.h ++ s.l))) 8) ∧
    Runs [0b01#2 ++ 0b110#3 ++ src.code] s (spent (s.memWrite (s.h ++ s.l) (s.reg src)).afterAccess 8) ∧
    Runs [0x36, n] s (spent (s.memWrite (s.h ++ s.l) n).afterAccess 12)

/-- R146 to R155: the loads and stores of A through BC, DE, an absolute address, and the last page by n or C. -/
def Obligations.AccumulatorTransfersRun : Prop :=
  ∀ (s : State) (n lo hi : Byte),
    Runs [0x0A] s (spent { s.afterAccess with a := s.memRead (s.b ++ s.c) } 8) ∧
    Runs [0x1A] s (spent { s.afterAccess with a := s.memRead (s.d ++ s.e) } 8) ∧
    Runs [0x02] s (spent (s.memWrite (s.b ++ s.c) s.a).afterAccess 8) ∧
    Runs [0x12] s (spent (s.memWrite (s.d ++ s.e) s.a).afterAccess 8) ∧
    Runs [0xFA, lo, hi] s (spent { s.afterAccess with a := s.memRead (hi ++ lo) } 16) ∧
    Runs [0xEA, lo, hi] s (spent (s.memWrite (hi ++ lo) s.a).afterAccess 16) ∧
    Runs [0xF0, n] s (spent { s.afterAccess with a := s.memRead (0xFF00#16 + n.setWidth 16) } 12) ∧
    Runs [0xE0, n] s (spent (s.memWrite (0xFF00#16 + n.setWidth 16) s.a).afterAccess 12) ∧
    Runs [0xF2] s (spent { s.afterAccess with a := s.memRead (0xFF00#16 + s.c.setWidth 16) } 8) ∧
    Runs [0xE2] s (spent (s.memWrite (0xFF00#16 + s.c.setWidth 16) s.a).afterAccess 8)

/-- R156 to R159: the loads and stores of A at HL that step HL by one modulo 2^16 after the access. -/
def Obligations.SteppingTransfersRun : Prop :=
  ∀ s : State,
    Runs [0x22] s (spent ((s.memWrite (s.h ++ s.l) s.a).afterAccess.setHl ((s.h ++ s.l) + 1)) 8) ∧
    Runs [0x32] s (spent ((s.memWrite (s.h ++ s.l) s.a).afterAccess.setHl ((s.h ++ s.l) - 1)) 8) ∧
    Runs [0x2A] s (spent ({ s.afterAccess with a := s.memRead (s.h ++ s.l) }.setHl ((s.h ++ s.l) + 1)) 8) ∧
    Runs [0x3A] s (spent ({ s.afterAccess with a := s.memRead (s.h ++ s.l) }.setHl ((s.h ++ s.l) - 1)) 8)

/-- R171 to R174: LD rr,nn in every pair; LD (nn),SP, low byte first; LD SP,HL; LD HL,SP+e with the flags of both
FLAG16_MODE values. -/
def Obligations.SixteenBitLoadsRun : Prop :=
  ∀ (s : State) (p : Pair) (lo hi e : Byte),
    Runs [0b00#2 ++ p.code ++ 0b0001#4, lo, hi] s (spent (s.setPair p (hi ++ lo)) 12) ∧
    Runs [0x08, lo, hi] s
      (spent ((s.memWrite (hi ++ lo) (loByte s.sp)).afterAccess.memWrite ((hi ++ lo) + 1) (hiByte s.sp)).afterAccess 20) ∧
    Runs [0xF9] s (spent { s with sp := s.h ++ s.l } 8) ∧
    Runs [0xF8, e] s
      (spent (({ s with f := spRelF s.cfg.flag16Mode s.sp.toNat e.toNat (displacement e) }).setHl
        (BitVec.ofNat 16 (s.sp.toNat + displacement e))) 12)

/-- R175 to R178: PUSH and POP of every pair; POP AF keeps only the high nibble of the popped F. What Push16 and Pop16
do is `StackPrimitives`. -/
def Obligations.PushAndPopRun : Prop :=
  ∀ s : State,
    Runs [0xC5] s (spent (s.push16 (s.b ++ s.c)) 16) ∧
    Runs [0xD5] s (spent (s.push16 (s.d ++ s.e)) 16) ∧
    Runs [0xE5] s (spent (s.push16 (s.h ++ s.l)) 16) ∧
    Runs [0xF5] s (spent (s.push16 (s.a ++ s.f)) 16) ∧
    Runs [0xC1] s (spent { s.pop16.2 with b := hiByte s.pop16.1, c := loByte s.pop16.1 } 12) ∧
    Runs [0xD1] s (spent { s.pop16.2 with d := hiByte s.pop16.1, e := loByte s.pop16.1 } 12) ∧
    Runs [0xE1] s (spent { s.pop16.2 with h := hiByte s.pop16.1, l := loByte s.pop16.1 } 12) ∧
    Runs [0xF1] s (spent { s.pop16.2 with a := hiByte s.pop16.1, f := loByte s.pop16.1 &&& 0xF0 } 12)

/-! ## 8-bit arithmetic and logic (44_alu8.md) -/

/-- R191 to R196: ADD and ADC on a register, the byte at HL and an immediate: the sum modulo 256 in A, Z from it, N clear,
H and C from the sums of the low nibbles and of the whole, carry-in included. -/
def Obligations.AddAndAdcRun : Prop :=
  ∀ (s : State) (p : Place) (n : Byte) (withCarry : Bool),
    Runs [0b10#2 ++ (if withCarry then 0b001#3 else 0b000#3) ++ p.code] s
      (spent { s.afterRead p with
        a := BitVec.ofNat 8 (s.a.toNat + (s.value p).toNat + carryIn withCarry s.f)
        f := sumF s.a.toNat (s.value p).toNat (carryIn withCarry s.f) } (aluCycles p)) ∧
    Runs [0b11#2 ++ (if withCarry then 0b001#3 else 0b000#3) ++ 0b110#3, n] s
      (spent { s with
        a := BitVec.ofNat 8 (s.a.toNat + n.toNat + carryIn withCarry s.f)
        f := sumF s.a.toNat n.toNat (carryIn withCarry s.f) } 8)

/-- R197 to R202 and R212 to R214: SUB, SBC and CP on a register, the byte at HL and an immediate, under both
SUB_HALF_READING values; CP writes the flags of SUB and leaves A. -/
def Obligations.SubSbcAndCpRun : Prop :=
  ∀ (s : State) (p : Place) (n : Byte) (withCarry : Bool),
    Runs [0b10#2 ++ (if withCarry then 0b011#3 else 0b010#3) ++ p.code] s
      (spent { s.afterRead p with
        a := BitVec.ofNat 8 (s.a.toNat + 512 - (s.value p).toNat - carryIn withCarry s.f)
        f := differenceF s.cfg.subHalfReading s.a.toNat (s.value p).toNat (carryIn withCarry s.f) } (aluCycles p)) ∧
    Runs [0b11#2 ++ (if withCarry then 0b011#3 else 0b010#3) ++ 0b110#3, n] s
      (spent { s with
        a := BitVec.ofNat 8 (s.a.toNat + 512 - n.toNat - carryIn withCarry s.f)
        f := differenceF s.cfg.subHalfReading s.a.toNat n.toNat (carryIn withCarry s.f) } 8) ∧
    Runs [0b10#2 ++ 0b111#3 ++ p.code] s
      (spent { s.afterRead p with
        f := differenceF s.cfg.subHalfReading s.a.toNat (s.value p).toNat 0 } (aluCycles p)) ∧
    Runs [0b11#2 ++ 0b111#3 ++ 0b110#3, n] s
      (spent { s with f := differenceF s.cfg.subHalfReading s.a.toNat n.toNat 0 } 8)

/-- R203 to R211: AND, XOR and OR on a register, the byte at HL and an immediate: Z from the result, N and C clear, H set
by AND alone. -/
def Obligations.LogicRun : Prop :=
  ∀ (s : State) (p : Place) (n : Byte),
    Runs [0b10#2 ++ 0b100#3 ++ p.code] s
      (spent { s.afterRead p with
        a := s.a &&& s.value p, f := fByte (decide (s.a &&& s.value p = 0)) false true false } (aluCycles p)) ∧
    Runs [0xE6, n] s (spent { s with a := s.a &&& n, f := fByte (decide (s.a &&& n = 0)) false true false } 8) ∧
    Runs [0b10#2 ++ 0b101#3 ++ p.code] s
      (spent { s.afterRead p with
        a := s.a ^^^ s.value p, f := fByte (decide (s.a ^^^ s.value p = 0)) false false false } (aluCycles p)) ∧
    Runs [0xEE, n] s (spent { s with a := s.a ^^^ n, f := fByte (decide (s.a ^^^ n = 0)) false false false } 8) ∧
    Runs [0b10#2 ++ 0b110#3 ++ p.code] s
      (spent { s.afterRead p with
        a := s.a ||| s.value p, f := fByte (decide (s.a ||| s.value p = 0)) false false false } (aluCycles p)) ∧
    Runs [0xF6, n] s (spent { s with a := s.a ||| n, f := fByte (decide (s.a ||| n = 0)) false false false } 8)

/-- R215 to R218: INC and DEC of a register and of the byte at HL: Z, N and H of the step, C kept. -/
def Obligations.IncAndDecRun : Prop :=
  ∀ (s : State) (p : Place),
    Runs [0b00#2 ++ p.code ++ 0b100#3] s
      (spent (({ s.afterRead p with
        f := fByte (decide (s.value p = 0xFF)) false (decide ((s.value p).toNat % 16 = 15)) (cOf s.f) }).put p
          (BitVec.ofNat 8 ((s.value p).toNat + 1))) (incCycles p)) ∧
    Runs [0b00#2 ++ p.code ++ 0b101#3] s
      (spent (({ s.afterRead p with
        f := fByte (decide (s.value p = 0x01)) true (decide ((s.value p).toNat % 16 = 0)) (cOf s.f) }).put p
          (BitVec.ofNat 8 ((s.value p).toNat + 255))) (incCycles p))

/-- R105 to R107 and R219: DAA. In the addition direction 6 is added when the low digit exceeds 9 or H is set, and 0x60
when A exceeds 0x99 or C is set, which then sets C; in the subtraction direction (N set, DAA_MODE lr35902) 6 is taken
off if H is set and 0x60 if C is set, C kept. Z from the result, N kept, H clear. -/
def Obligations.DaaRuns : Prop :=
  ∀ s : State,
    ((nOf s.f = false ∨ s.cfg.daaMode = .addOnly) →
      ∃ res c, c = (cOf s.f || decide (s.a.toNat > 0x99)) ∧
        res = BitVec.ofNat 8
          (s.a.toNat + (if hOf s.f = true ∨ s.a.toNat % 16 > 9 then 6 else 0) + (if c then 0x60 else 0)) ∧
        Runs [0x27] s (spent { s with a := res, f := fByte (decide (res = 0)) (nOf s.f) false c } 4)) ∧
    ((nOf s.f = true ∧ s.cfg.daaMode = .lr35902) →
      ∃ res, res = BitVec.ofNat 8
          (s.a.toNat + 256 - (if hOf s.f then 6 else 0) - (if cOf s.f then 0x60 else 0)) ∧
        Runs [0x27] s (spent { s with a := res, f := fByte (decide (res = 0)) true false (cOf s.f) } 4))

/-- R220 to R222: CPL, SCF and CCF keep Z. -/
def Obligations.CplScfCcfRun : Prop :=
  ∀ s : State,
    Runs [0x2F] s (spent { s with a := BitVec.ofNat 8 (255 - s.a.toNat), f := fByte (zOf s.f) true true (cOf s.f) } 4) ∧
    Runs [0x37] s (spent { s with f := fByte (zOf s.f) false false true } 4) ∧
    Runs [0x3F] s (spent { s with f := fByte (zOf s.f) false false (!cOf s.f) } 4)

/-! ## 16-bit arithmetic (45_alu16.md) -/

/-- R230 to R233, with R108 and R109: ADD HL,rr under both FLAG16_MODE values, INC rr and DEC rr with F untouched, and
ADD SP,e. -/
def Obligations.SixteenBitArithmeticRun : Prop :=
  ∀ (s : State) (p : Pair) (e : Byte),
    (s.cfg.flag16Mode = .source →
      Runs [0b00#2 ++ p.code ++ 0b1001#4] s
        (spent (({ s with f := sumF16 (s.h ++ s.l : Word).toNat (s.pair p).toNat }).setHl
          (BitVec.ofNat 16 ((s.h ++ s.l : Word).toNat + (s.pair p).toNat))) 8)) ∧
    (s.cfg.flag16Mode = .lr35902 →
      Runs [0b00#2 ++ p.code ++ 0b1001#4] s
        (spent (({ s with
          f := fByte (zOf s.f) false
            (decide ((s.h ++ s.l : Word).toNat % 4096 + (s.pair p).toNat % 4096 > 4095))
            (decide ((s.h ++ s.l : Word).toNat + (s.pair p).toNat > 65535)) }).setHl
          (BitVec.ofNat 16 ((s.h ++ s.l : Word).toNat + (s.pair p).toNat))) 8)) ∧
    Runs [0b00#2 ++ p.code ++ 0b0011#4] s (spent (s.setPair p (BitVec.ofNat 16 ((s.pair p).toNat + 1))) 8) ∧
    Runs [0b00#2 ++ p.code ++ 0b1011#4] s (spent (s.setPair p (BitVec.ofNat 16 ((s.pair p).toNat + 65535))) 8) ∧
    Runs [0xE8, e] s
      (spent { s with
        f := spRelF s.cfg.flag16Mode s.sp.toNat e.toNat (displacement e)
        sp := BitVec.ofNat 16 (s.sp.toNat + displacement e) } 16)

/-! ## Rotates, shifts and bits (46_rotate_shift_bit.md) -/

/-- R240 to R243: the accumulator rotates clear Z, N and H, and C is the bit that leaves. -/
def Obligations.AccumulatorRotatesRun : Prop :=
  ∀ s : State,
    Runs [0x07] s (spent { s with a := s.a.rotateLeft 1, f := fByte false false false (s.a.getLsbD 7) } 4) ∧
    Runs [0x0F] s (spent { s with a := s.a.rotateRight 1, f := fByte false false false (s.a.getLsbD 0) } 4) ∧
    Runs [0x17] s
      (spent { s with
        a := BitVec.ofNat 8 (2 * s.a.toNat + carryIn true s.f), f := fByte false false false (s.a.getLsbD 7) } 4) ∧
    Runs [0x1F] s
      (spent { s with
        a := BitVec.ofNat 8 ((s.a.toNat + 256 * carryIn true s.f) / 2)
        f := fByte false false false (s.a.getLsbD 0) } 4)

/-- R245 to R252: RLC, RRC, RL and RR on the eight operands: Z from the result, N and H clear, C the bit that leaves. -/
def Obligations.ExtendedRotatesRun : Prop :=
  ∀ (s : State) (p : Place),
    Runs [0xCB, 0b00#2 ++ 0b000#3 ++ p.code] s (rotated s p ((s.value p).rotateLeft 1) ((s.value p).getLsbD 7)) ∧
    Runs [0xCB, 0b00#2 ++ 0b001#3 ++ p.code] s (rotated s p ((s.value p).rotateRight 1) ((s.value p).getLsbD 0)) ∧
    Runs [0xCB, 0b00#2 ++ 0b010#3 ++ p.code] s
      (rotated s p (BitVec.ofNat 8 (2 * (s.value p).toNat + carryIn true s.f)) ((s.value p).getLsbD 7)) ∧
    Runs [0xCB, 0b00#2 ++ 0b011#3 ++ p.code] s
      (rotated s p (BitVec.ofNat 8 (((s.value p).toNat + 256 * carryIn true s.f) / 2)) ((s.value p).getLsbD 0))

/-- R253 to R260: SLA, SRA, SWAP and SRL on the eight operands; SWAP clears C. -/
def Obligations.ExtendedShiftsRun : Prop :=
  ∀ (s : State) (p : Place),
    Runs [0xCB, 0b00#2 ++ 0b100#3 ++ p.code] s
      (rotated s p (BitVec.ofNat 8 (2 * (s.value p).toNat)) ((s.value p).getLsbD 7)) ∧
    Runs [0xCB, 0b00#2 ++ 0b101#3 ++ p.code] s
      (rotated s p ((s.value p).sshiftRight 1) ((s.value p).getLsbD 0)) ∧
    Runs [0xCB, 0b00#2 ++ 0b110#3 ++ p.code] s (rotated s p ((s.value p).rotateLeft 4) false) ∧
    Runs [0xCB, 0b00#2 ++ 0b111#3 ++ p.code] s
      (rotated s p (BitVec.ofNat 8 ((s.value p).toNat / 2)) ((s.value p).getLsbD 0))

/-- R261 to R266: BIT, RES and SET, every bit on the eight operands; BIT keeps C and writes no operand, RES and SET write
no flag. -/
def Obligations.BitInstructionsRun : Prop :=
  ∀ (s : State) (p : Place) (b : BitVec 3),
    Runs [0xCB, 0b01#2 ++ b ++ p.code] s
      (spent { s.afterRead p with f := fByte (!(s.value p).getLsbD b.toNat) false true (cOf s.f) } (bitCycles p)) ∧
    Runs [0xCB, 0b10#2 ++ b ++ p.code] s
      (spent ((s.afterRead p).put p (s.value p &&& ~~~(1#8 <<< b.toNat))) (cbCycles p)) ∧
    Runs [0xCB, 0b11#2 ++ b ++ p.code] s
      (spent ((s.afterRead p).put p (s.value p ||| (1#8 <<< b.toNat))) (cbCycles p))

/-! ## Control transfer (47_control_transfer.md) -/

/-- R271 to R275: jumps, taken and not taken; `s.pc` is the address after the instruction. -/
def Obligations.JumpsRun : Prop :=
  ∀ (s : State) (cc : Cond) (lo hi e : Byte),
    Runs [0xC3, lo, hi] s (spent { s with pc := hi ++ lo } 16) ∧
    Runs [0b110#3 ++ cc.code ++ 0b010#3, lo, hi] s
      (if condHolds cc s.f then spent { s with pc := hi ++ lo } 16 else spent s 12) ∧
    Runs [0xE9] s (spent { s with pc := s.h ++ s.l } 4) ∧
    Runs [0x18, e] s (spent { s with pc := BitVec.ofNat 16 (s.pc.toNat + displacement e) } 12) ∧
    Runs [0b001#3 ++ cc.code ++ 0b000#3, e] s
      (if condHolds cc s.f then spent { s with pc := BitVec.ofNat 16 (s.pc.toNat + displacement e) } 12
      else spent s 8)

/-- R276 to R281: calls, returns and restarts, taken and not taken; `s.pc`, the address after the instruction, is what a
call pushes. RETI sets IME at once and forgets a pending EI. -/
def Obligations.CallsAndReturnsRun : Prop :=
  ∀ (s : State) (cc : Cond) (lo hi : Byte) (y : BitVec 3),
    Runs [0xCD, lo, hi] s (spent { s.push16 s.pc with pc := hi ++ lo } 24) ∧
    Runs [0b110#3 ++ cc.code ++ 0b100#3, lo, hi] s
      (if condHolds cc s.f then spent { s.push16 s.pc with pc := hi ++ lo } 24 else spent s 12) ∧
    Runs [0xC9] s (spent { s.pop16.2 with pc := s.pop16.1 } 16) ∧
    Runs [0b110#3 ++ cc.code ++ 0b000#3] s
      (if condHolds cc s.f then spent { s.pop16.2 with pc := s.pop16.1 } 20 else spent s 8) ∧
    Runs [0xD9] s (spent { s.pop16.2 with pc := s.pop16.1, ime := true, eiPending := .none } 16) ∧
    Runs [0b11#2 ++ y ++ 0b111#3] s (spent { s.push16 s.pc with pc := BitVec.ofNat 16 (8 * y.toNat) } 16)

/-! ## Memory (20_memory.md) and the register file (10_state.md) -/

/-- R51 and R52: below 0x0100 with a zero latch the port reads and writes the overlay store (a write is dropped where
BOOT_OVERLAY_WRITES is ignore); everywhere else it reads and writes the array. -/
def Obligations.PortReadsAndWrites : Prop :=
  ∀ (s : State) (x : Word) (v : Byte),
    (∀ h : x.toNat < 256, Memory.read s.mem 0xFF50 = 0 →
      s.memRead x = s.boot[x.toNat] ∧
      (s.cfg.bootOverlayWrites = .redirect → s.memWrite x v = { s with boot := s.boot.set x.toNat v }) ∧
      (s.cfg.bootOverlayWrites = .ignore → s.memWrite x v = s)) ∧
    ((256 ≤ x.toNat ∨ Memory.read s.mem 0xFF50 ≠ 0) →
      s.memRead x = Memory.read s.mem x.toNat ∧
      s.memWrite x v = { s with mem := Memory.write s.mem x.toNat v })

/-- R53 and R54: a write to the latch decides the very next access below 0x0100: nonzero shows the array, zero shows the
overlay store again. -/
def Obligations.LatchSwitchesTheOverlay : Prop :=
  ∀ (s : State) (v : Byte) (x : Word) (h : x.toNat < 256),
    (v ≠ 0 → (s.memWrite 0xFF50 v).memRead x = Memory.read s.mem x.toNat) ∧
    (v = 0 → (s.memWrite 0xFF50 v).memRead x = s.boot[x.toNat])

/-- A byte written through the port reads back, unless the write was dropped in the overlay, and every other address reads
as before, but for 0x0000 to 0x00FF when the byte written is the latch (R52, R62). -/
def Obligations.WriteChangesOneByte : Prop :=
  ∀ (s : State) (x y : Word) (v : Byte),
    ((s.cfg.bootOverlayWrites = .redirect ∨ 256 ≤ x.toNat ∨ Memory.read s.mem 0xFF50 ≠ 0) →
      (s.memWrite x v).memRead x = v) ∧
    (y ≠ x → (x ≠ 0xFF50 ∨ 256 ≤ y.toNat) → (s.memWrite x v).memRead y = s.memRead y)

/-- Two canonical memories that read alike at every address are the same data (the form memory is held in, log entry
3). -/
def Obligations.CanonicalMemoryIsUnique : Prop :=
  ∀ m m' : Memory, m.wf = true → m'.wf = true →
    (∀ x, x < 65536 → Memory.read m x = Memory.read m' x) → m = m'

/-- R58 and R59: Read16 and Write16 take the low byte at the lower address; Push16 stores the high byte at SP-1, then the
low byte at SP-2, and leaves SP-2, all modulo 2^16. After each byte access comes the point where the environment's acts
may land (R63). -/
def Obligations.StackPrimitives : Prop :=
  ∀ (s : State) (x v : Word),
    s.read16 x = (s.afterAccess.memRead (x + 1) ++ s.memRead x, s.afterAccess.afterAccess) ∧
    s.write16 x v =
      ((s.memWrite x (v.setWidth 8)).afterAccess.memWrite (x + 1) ((v >>> 8).setWidth 8)).afterAccess ∧
    s.push16 v =
      { ((s.memWrite (s.sp - 1) ((v >>> 8).setWidth 8)).afterAccess.memWrite (s.sp - 2) (v.setWidth 8)).afterAccess with
        sp := s.sp - 2 }

/-- R60: Pop16 takes the low byte from SP, then the high byte from SP+1, and leaves SP+2; and its property: Push16 then
Pop16 gives the value back and restores SP, for every value and every SP, where no other agent writes between and no
pushed byte is dropped in the overlay. -/
def Obligations.PushThenPopIsSymmetric : Prop :=
  ∀ (s : State) (v : Word),
    s.pop16 =
      (s.afterAccess.memRead (s.sp + 1) ++ s.memRead s.sp, { s.afterAccess.afterAccess with sp := s.sp + 2 }) ∧
    (s.quietEnv →
      (s.cfg.bootOverlayWrites = .redirect ∨ Memory.read s.mem 0xFF50 ≠ 0 ∨
        (256 ≤ (s.sp - 1).toNat ∧ 256 ≤ (s.sp - 2).toNat)) →
      (s.push16 v).pop16.1 = v ∧ (s.push16 v).pop16.2.sp = s.sp)

/-- R24: writing v to AF sets A and the high nibble of F, so AF then reads v & 0xFFF0; the other pairs read back what was
written. -/
def Obligations.PairsReadBackWhatWasWritten : Prop :=
  ∀ (s : State) (v : Word),
    (s.setAf v).a = (v >>> 8).setWidth 8 ∧ (s.setAf v).f = v.setWidth 8 &&& 0xF0#8 ∧ (s.setAf v).af = v &&& 0xFFF0 ∧
    (s.setBc v).bc = v ∧ (s.setDe v).de = v ∧ (s.setHl v).hl = v

/-- Under ENV_WRITE_POINTS = byte a read-modify-write instruction is not atomic (R67): a byte the environment writes at HL
between INC (HL)'s read and its write is lost, and INC writes the old byte plus one. (How the environment's acts are
scheduled is the model's choice, log entries 4 and 6. With HL at 0xFFFF the environment's write changes nothing, log
entry 18, and INC writes the same.) -/
def Obligations.ReadModifyWriteIsNotAtomic : Prop :=
  ∀ (s : State) (w : Byte),
    s.cfg.envWritePoints = .byte → s.env = [[.write s.hl w]] → 256 ≤ s.hl.toNat →
    ∃ t, exec .incAtHl s = .next t ∧ t.memRead s.hl = s.memRead s.hl + 1 ∧ t.env = []

/-! ## Reset and launch (70_reset_and_hazards.md) -/

/-- R340 and R341: every piece of state after Reset(), in both modes, and where the first instruction byte comes from. -/
def Obligations.ResetLeavesTheStatedValues : Prop :=
  ∀ l : Launch,
    ((State.resetWith l).ime = false ∧ (State.resetWith l).mode = .active ∧ (State.resetWith l).eiPending = .none ∧
      (State.resetWith l).stepCycles = 0 ∧ (State.resetWith l).totalCycles = 0 ∧
      (State.resetWith l).boot = l.bootRom) ∧
    (l.params.resetMode = .zero →
      (∀ r, (State.resetWith l).reg r = 0) ∧ (State.resetWith l).f = 0 ∧
      (State.resetWith l).sp = 0 ∧ (State.resetWith l).pc = 0 ∧
      (State.resetWith l).mem = l.initMemory ∧
      (Memory.read l.initMemory 0xFF50 = 0 →
        (State.resetWith l).memRead (State.resetWith l).pc = l.bootRom[0])) ∧
    (l.params.resetMode = .postBoot →
      (State.resetWith l).a = 0x01 ∧ (State.resetWith l).f = 0xB0 ∧
      (State.resetWith l).bc = 0x0013 ∧ (State.resetWith l).de = 0x00D8 ∧ (State.resetWith l).hl = 0x014D ∧
      (State.resetWith l).sp = 0xFFFE ∧ (State.resetWith l).pc = 0x0100 ∧
      Memory.read (State.resetWith l).mem 0xFF50 = 0x01 ∧
      (∀ x, x ≠ 0xFF50 → Memory.read (State.resetWith l).mem x = Memory.read l.initMemory x))

/-- R344: a cartridge of at most 32,768 bytes is copied into the array from 0x0000, under the overlay and bypassing it, and
nothing else changes; a larger one is refused and changes no state, and the launch then runs no round. -/
def Obligations.CartridgeIsCopiedOrRefused : Prop :=
  ∀ (x : Session) (bytes : List Byte), x.phase = .fresh →
    (bytes.length ≤ 32768 →
      ∃ m, x.apply (.loadCartridge bytes) =
          .next { x with phase := .loaded, state := { x.state with mem := m } } ∧
        (∀ i, ∀ h : i < bytes.length, Memory.read m i = bytes[i]) ∧
        (∀ i, bytes.length ≤ i → Memory.read m i = Memory.read x.state.mem i)) ∧
    (32768 < bytes.length →
      x.apply (.loadCartridge bytes) = .refused .cartridgeTooLarge ∧
      (x.after (.loadCartridge bytes)).state = x.state ∧
      (x.after (.loadCartridge bytes)).apply .step = .refused .launchFailed)

/-- R343: in the rounds of step 3 Reset and LoadCartridge are refused, and a second cartridge is refused, so that the launch
stays as it was; before them Reset begins the launch again. A round is one step of the machine, and rounds, environment
writes and posted requests go on in every phase but the failed one, each leaving the launch in its rounds, so that no
cartridge can follow; after a failed load every operation is refused. (The phases, and that an act before the first round
closes the loading, are the model's, log entry 13; so are that an environment write changes nothing at 0xFFFF, IE, which
only software writes (R33), and may store any byte at any other address, log entry 18, and that it goes through the port
and so into the overlay below 0x0100, log entry 5.) -/
def Obligations.LaunchOrderIsKept : Prop :=
  ∀ (x : Session) (bytes : List Byte) (a : Word) (v : Byte) (k : IrqSource),
    (x.phase = .running →
      x.apply .reset = .refused .launchAlreadyRunning ∧
      x.apply (.loadCartridge bytes) = .refused .launchAlreadyRunning ∧
      x.after .reset = x ∧ x.after (.loadCartridge bytes) = x) ∧
    (x.phase = .loaded → x.apply (.loadCartridge bytes) = .refused .secondCartridge ∧
      x.after (.loadCartridge bytes) = x) ∧
    ((x.phase = .fresh ∨ x.phase = .loaded) →
      x.apply .reset = .next { launch := x.launch, phase := .fresh, state := State.resetWith x.launch }) ∧
    (x.phase ≠ .failed →
      (∃ t, step x.state = .next t ∧ x.apply .step = .next { x with phase := .running, state := t }) ∧
      x.apply (.envWrite a v) =
        .next { x with phase := .running, state := if a = 0xFFFF then x.state else x.state.memWrite a v } ∧
      x.apply (.postInterrupt k) = .next { x with phase := .running, state := x.state.postInterrupt k }) ∧
    (x.phase = .failed → ∀ op, x.apply op = .refused .launchFailed)

/-! ## Interrupts (60_exceptions.md) -/

/-- R303: the arbiter answers none and changes nothing when IME is clear or nothing is pending and enabled; otherwise it
answers the vector 0x40 + 8k of the lowest set bit k, clears that bit of IF alone, and clears IME. -/
def Obligations.ArbiterServesTheLowestBit : Prop :=
  ∀ s : State,
    (s.ime = false → s.arbiter = (none, s)) ∧
    (Memory.read s.mem 0xFFFF &&& Memory.read s.mem 0xFF0F &&& 0x1F = 0 → s.arbiter = (none, s)) ∧
    (∀ k : Fin 5, s.ime = true →
      (Memory.read s.mem 0xFFFF &&& Memory.read s.mem 0xFF0F &&& 0x1F).getLsbD k.val = true →
      (∀ j : Nat, j < k.val →
        (Memory.read s.mem 0xFFFF &&& Memory.read s.mem 0xFF0F &&& 0x1F).getLsbD j = false) →
      s.arbiter =
        (some (BitVec.ofNat 16 (0x40 + 8 * k.val)),
          { s with
            ime := false
            mem := Memory.write s.mem 0xFF0F (Memory.read s.mem 0xFF0F &&& ~~~(1#8 <<< k.val)) }))

/-- R308: a dispatch pushes PC, high byte first, goes to the vector, makes the core active, and adds INT_DISPATCH_CYCLES to
both counters; nothing else is saved or changed. -/
def Obligations.DispatchPushesPcAndJumps : Prop :=
  ∀ (s : State) (v : Word),
    s.dispatch v =
      { (s.memWrite (s.sp - 1) ((s.pc >>> 8).setWidth 8)).memWrite (s.sp - 2) (s.pc.setWidth 8) with
        sp := s.sp - 2
        pc := v
        mode := .active
        stepCycles := s.stepCycles + s.cfg.intDispatchCycles
        totalCycles := s.totalCycles + s.cfg.intDispatchCycles }

/-- R306: PostInterrupt(k) sets the request bit of source k in IF, through the memory port, and changes nothing else, run
state and registers included. -/
def Obligations.PostedRequestSetsItsBit : Prop :=
  ∀ s : State,
    s.postInterrupt .vblank = { s with mem := Memory.write s.mem 0xFF0F (Memory.read s.mem 0xFF0F ||| 0x01) } ∧
    s.postInterrupt .lcdStat = { s with mem := Memory.write s.mem 0xFF0F (Memory.read s.mem 0xFF0F ||| 0x02) } ∧
    s.postInterrupt .timer = { s with mem := Memory.write s.mem 0xFF0F (Memory.read s.mem 0xFF0F ||| 0x04) } ∧
    s.postInterrupt .serial = { s with mem := Memory.write s.mem 0xFF0F (Memory.read s.mem 0xFF0F ||| 0x08) } ∧
    s.postInterrupt .joypad = { s with mem := Memory.write s.mem 0xFF0F (Memory.read s.mem 0xFF0F ||| 0x10) }

/-- IE is the byte at 0xFFFF, which stores all eight bits written to it (R33); bit k of it, for k up to 4, decides with
the same bit of IF whether the request of source k is pending and enabled, and bits 7 to 5 decide nothing (R302, R303).
Only software writes it: no act of the environment, no operation of the host between the rounds and no arbiter changes
it (R63, R306, R303), nor does a halted round that takes no interrupt (R307). (That an environment write at 0xFFFF, as an
act or as an operation of the host, runs and changes nothing is the model's choice, log entry 18: the spec does not say
what becomes of one.) -/
def Obligations.OnlySoftwareWritesIe : Prop :=
  ∀ (s t : State) (v : Byte) (k : Nat) (act : EnvAct) (x y : Session) (a : Word) (src : IrqSource),
    (s.memWrite 0xFFFF v).memRead 0xFFFF = v ∧
    (s.pendingEnabled.getLsbD k =
      (decide (k < 5) && (s.memRead 0xFFFF).getLsbD k && (s.memRead 0xFF0F).getLsbD k)) ∧
    (s.applyEnv act).memRead 0xFFFF = s.memRead 0xFFFF ∧
    s.landEnv.memRead 0xFFFF = s.memRead 0xFFFF ∧
    s.arbiter.2.memRead 0xFFFF = s.memRead 0xFFFF ∧
    (x.apply (.envWrite a v) = .next y ∨ x.apply (.postInterrupt src) = .next y →
      y.state.memRead 0xFFFF = x.state.memRead 0xFFFF) ∧
    (s.mode = .halted → step s = .next t → t.sp = s.sp → t.memRead 0xFFFF = s.memRead 0xFFFF)

/-- R313: the EI commit, under both EI_DELAY values. -/
def Obligations.EiCommitMovesOneStage : Prop :=
  ∀ s : State,
    (s.cfg.eiDelay = .zero → s.eiCommit = s) ∧
    (s.cfg.eiDelay = .one → s.eiPending = .ready → s.eiCommit = { s with ime := true, eiPending := .none }) ∧
    (s.cfg.eiDelay = .one → s.eiPending = .armed → s.eiCommit = { s with eiPending := .ready }) ∧
    (s.cfg.eiDelay = .one → s.eiPending = .none → s.eiCommit = s)

/-- The one-instruction delay of EI (R124, R313): in the round of the EI itself IME stays clear and nothing is dispatched;
the EI commit after the next instruction sets it, unless that instruction is DI. Every instruction's round has that commit
but STOP's and an unrecognized opcode's, whose round ends at once (R300, R307). -/
def Obligations.DelayedEiTakesOneInstruction : Prop :=
  ∀ (s t : State) (i : Instr) (u : State),
    s.cfg.eiDelay = .one → s.ime = false → s.eiPending = .none → s.mode = .active →
    exec .ei s = .next t →
    (t.endRound.ime = false ∧ t.endRound.eiPending = .ready ∧ t.endRound.pc = s.pc ∧ t.endRound.sp = s.sp) ∧
    (i ≠ .di → exec i t.endRound = .next u → u.eiCommit.ime = true ∧ u.eiCommit.eiPending = .none) ∧
    (i ≠ .stop → (∀ op, i ≠ .illegal op) → exec i t.endRound = .next u → u.endRound = u.poll) ∧
    ((i = .stop ∨ ∃ op, i = .illegal op) → exec i t.endRound = .next u → u.endRound = u)

/-- R312 and R320: a halted core with nothing dispatched wakes if a request is pending and enabled and HALT_WAKE_IME0 is
wake; otherwise it exits if EXIT_ON_IDLE_HALT is set and no later round can wake it; otherwise it stays. -/
def Obligations.HaltWakeRule : Prop :=
  ∀ s : State,
    (s.pendingEnabled ≠ 0 → s.cfg.haltWakeIme0 = .wake → s.haltWake = { s with mode := .active }) ∧
    ((s.pendingEnabled = 0 ∨ s.cfg.haltWakeIme0 = .stay) → s.cfg.exitOnIdleHalt = true →
      (Memory.read s.mem 0xFFFF &&& 0x1F = 0 ∨ (s.ime = false ∧ s.cfg.haltWakeIme0 = .stay)) →
      s.haltWake = { s with mode := .exited }) ∧
    ((s.pendingEnabled = 0 ∨ s.cfg.haltWakeIme0 = .stay) →
      (s.cfg.exitOnIdleHalt = false ∨
        (Memory.read s.mem 0xFFFF &&& 0x1F ≠ 0 ∧ (s.ime = true ∨ s.cfg.haltWakeIme0 = .wake))) →
      s.haltWake = s)

/-- A halted core is made active only by a request that is pending and enabled once the environment's acts of the round
have landed; without one it stays halted or exits, and PC, SP and the registers stay (R311, R312, R319). -/
def Obligations.HaltIsLeftOnlyByARequest : Prop :=
  ∀ s t : State, s.mode = .halted → step s = .next t →
    (t.mode = .active → s.landEnv.pendingEnabled ≠ 0) ∧
    (t.mode = .active ∨ t.mode = .halted ∨ t.mode = .exited) ∧
    (s.landEnv.pendingEnabled = 0 → t.pc = s.pc ∧ t.sp = s.sp ∧ t.mem = s.landEnv.mem) ∧
    (∀ r, t.reg r = s.reg r) ∧ t.f = s.f

/-- R310: the rest of a round dispatches at most one interrupt. Either PC, SP and both stores are left alone, or one
vector was taken: PC is it, SP is down by two, IME is clear and the core active. With IME clear and no EI about to take
effect it is the first (R305). With IME set, or set by the EI commit, and a request pending and enabled it is the second,
in an active round as in a halted one: the arbiter's vector is dispatched (R307). -/
def Obligations.AtMostOneDispatchPerRound : Prop :=
  ∀ s : State,
    ((s.poll.pc = s.pc ∧ s.poll.sp = s.sp ∧ s.poll.mem = s.mem ∧ s.poll.boot = s.boot ∧
        s.poll.totalCycles = s.totalCycles) ∨
      (s.poll.ime = false ∧ s.poll.mode = .active ∧ s.poll.sp = s.sp - 2 ∧
        s.poll.totalCycles = s.totalCycles + s.cfg.intDispatchCycles ∧
        (s.ime = true ∨ s.eiPending = .ready) ∧
        ∃ k : Fin 5, s.poll.pc = BitVec.ofNat 16 (0x40 + 8 * k.val) ∧
          s.pendingEnabled.getLsbD k.val = true)) ∧
    (s.ime = false → s.eiPending ≠ .ready →
      s.poll.pc = s.pc ∧ s.poll.sp = s.sp ∧ s.poll.mem = s.mem ∧ s.poll.boot = s.boot ∧ s.poll.ime = false) ∧
    ((s.ime = true ∨ (s.cfg.eiDelay = .one ∧ s.eiPending = .ready)) → s.pendingEnabled ≠ 0 →
      TookInterrupt s s.poll ∧
      ∃ v, s.eiCommit.arbiter.1 = some v ∧ s.poll = s.eiCommit.arbiter.2.dispatch v) ∧
    (s.mode = .active ∨ s.mode = .halted → s.endRound = s.poll)

/-! ## Invariants and whole-machine rules -/

/-- The invariant holds right after reset, for the defaults and for any parameters and boot sequence. -/
def Obligations.InvariantHoldsAtReset : Prop :=
  State.reset.Inv ∧ ∀ l : Launch, (State.resetWith l).Inv

/-- Every step keeps the invariant, from every state that meets it: memory stays canonical, the low nibble of F stays zero
(R22), and EI_DELAY = 0 never leaves an EI pending (R32). -/
def Obligations.StepKeepsTheInvariant : Prop :=
  ∀ s t : State, s.Inv → step s = .next t → t.Inv

/-- Nothing but the counters depends on the counters (R31, R350): two states that differ in `step_cycles` and
`total_cycles` alone step to states that differ in them alone. -/
def Obligations.CountersInfluenceNothing : Prop :=
  ∀ (s t : State) (n m : Nat), step s = .next t →
    ∃ n' m', step { s with stepCycles := n, totalCycles := m } = .next { t with stepCycles := n', totalCycles := m' }

/-- Flag totality (R111): after an accumulator operation the result and F are a function of A, the operand and the incoming
carry alone; and F after an 8-bit INC or DEC is a function of the operand and the incoming carry alone. -/
def Obligations.FlagsAreTotal : Prop :=
  (∀ (s s' : State) (op : AluOp) (v : Byte),
    s.a = s'.a → cOf s.f = cOf s'.f → s.cfg.subHalfReading = s'.cfg.subHalfReading →
    (s.alu op v).f = (s'.alu op v).f ∧ (s.alu op v).a = (s'.alu op v).a) ∧
  (∀ (s s' : State) (p : Place),
    s.value p = s'.value p → cOf s.f = cOf s'.f →
    (s.modify8 p inc8).f = (s'.modify8 p inc8).f ∧ (s.modify8 p dec8).f = (s'.modify8 p dec8).f)

/-- ADD or ADC of two BCD bytes followed by DAA is decimal addition: A holds the last two digits and C says whether the sum
exceeds 99 (R105, R219), under either DAA_MODE. -/
def Obligations.DaaCorrectsDecimalAddition : Prop :=
  ∀ (s t u : State) (x y : Fin 100), s.a = bcd x.val →
    (exec (.addAN (bcd y.val)) s = .next t → exec .daa t = .next u →
      u.a = bcd ((x.val + y.val) % 100) ∧ cOf u.f = decide (99 < x.val + y.val)) ∧
    (exec (.adcAN (bcd y.val)) s = .next t → exec .daa t = .next u →
      u.a = bcd ((x.val + y.val + carryIn true s.f) % 100) ∧
        cOf u.f = decide (99 < x.val + y.val + carryIn true s.f))

/-- SUB or SBC of two BCD bytes followed by DAA is decimal subtraction modulo 100 when DAA_MODE is lr35902 (R106, R219), and
C says whether a digit was borrowed. -/
def Obligations.DaaCorrectsDecimalSubtraction : Prop :=
  ∀ (s t u : State) (x y : Fin 100), s.a = bcd x.val → s.cfg.daaMode = .lr35902 →
    (exec (.subN (bcd y.val)) s = .next t → exec .daa t = .next u →
      u.a = bcd ((x.val + 100 - y.val) % 100) ∧ cOf u.f = decide (x.val < y.val)) ∧
    (exec (.sbcAN (bcd y.val)) s = .next t → exec .daa t = .next u →
      u.a = bcd ((x.val + 100 - y.val - carryIn true s.f) % 100) ∧
        cOf u.f = decide (x.val < y.val + carryIn true s.f))
end

