-- ==== Sys2Proof/Laws/Memory.lean ====
section
/-! SUPPORT. The laws of the memory list: a read after a write gives the value written, a write leaves every other
address alone (in any list, canonical or not), and every write keeps the canonical form. -/

namespace Sys2Proof.Machine

namespace Memory

/-- No entry of the list has the address. -/
def absent (m : Memory) (x : Nat) : Prop := ∀ c ∈ m, c.1 ≠ x

@[simp] theorem read_nil (x : Nat) : read [] x = unlisted := rfl

theorem read_of_absent {m : Memory} {x : Nat} (h : absent m x) : read m x = unlisted := by
  induction m with
  | nil => rfl
  | cons c m ih =>
    have hc : c.1 ≠ x := h c (by simp)
    simpa [read, hc] using ih fun d hd => h d (by simp [hd])

theorem absent_erase (m : Memory) (x : Nat) : absent (erase m x) x := by
  induction m with
  | nil => simp [absent, erase]
  | cons c m ih =>
    by_cases hc : c.1 = x
    · simpa [erase, hc] using ih
    · intro d hd
      simp only [erase, hc, if_false, List.mem_cons] at hd
      rcases hd with rfl | hd
      · exact hc
      · exact ih d hd

theorem read_erase_ne {m : Memory} {x y : Nat} (h : y ≠ x) : read (erase m x) y = read m y := by
  induction m with
  | nil => rfl
  | cons c m ih =>
    by_cases hc : c.1 = x
    · have : c.1 ≠ y := fun e => h (e.symm.trans hc)
      simpa [erase, read, hc, Ne.symm h] using ih
    · by_cases hy : c.1 = y
      · simp [erase, read, hy, h]
      · simpa [erase, read, hc, hy] using ih

theorem read_insert_same {m : Memory} {x : Nat} {v : Byte} (h : absent m x) : read (insert m x v) x = v := by
  induction m with
  | nil => simp [insert, read]
  | cons c m ih =>
    have hc : c.1 ≠ x := h c (by simp)
    by_cases hl : x < c.1
    · simp [insert, read, hl]
    · simpa [insert, read, hl, hc] using ih fun d hd => h d (by simp [hd])

theorem read_insert_ne {m : Memory} {x y : Nat} {v : Byte} (h : y ≠ x) : read (insert m x v) y = read m y := by
  induction m with
  | nil => simp [insert, read, Ne.symm h]
  | cons c m ih =>
    by_cases hl : x < c.1
    · simp [insert, read, hl, Ne.symm h]
    · by_cases hy : c.1 = y
      · subst hy
        simp [insert, read, hl]
      · simpa [insert, read, hl, hy] using ih

/-- A read after a write to the same address gives the value written. -/
@[simp] theorem read_write_same (m : Memory) (x : Nat) (v : Byte) : read (write m x v) x = v := by
  unfold write
  split
  · rename_i hv
    rw [read_of_absent (absent_erase m x), hv]
  · exact read_insert_same (absent_erase m x)

/-- A write leaves every other address alone. -/
theorem read_write_ne {m : Memory} {x y : Nat} {v : Byte} (h : y ≠ x) : read (write m x v) y = read m y := by
  unfold write
  split
  · exact read_erase_ne h
  · rw [read_insert_ne h, read_erase_ne h]

theorem wfFrom_mono {m : Memory} {lo lo' : Nat} (h : lo ≤ lo') (hm : wfFrom lo' m = true) : wfFrom lo m = true := by
  cases m with
  | nil => rfl
  | cons c m =>
    simp only [wfFrom, Bool.and_eq_true, decide_eq_true_eq] at hm ⊢
    exact ⟨⟨⟨le_trans h hm.1.1.1, hm.1.1.2⟩, hm.1.2⟩, hm.2⟩

theorem wfFrom_erase {m : Memory} {lo x : Nat} (hm : wfFrom lo m = true) : wfFrom lo (erase m x) = true := by
  induction m generalizing lo with
  | nil => rfl
  | cons c m ih =>
    simp only [wfFrom, Bool.and_eq_true, decide_eq_true_eq] at hm
    by_cases hc : c.1 = x
    · simp only [erase, hc, if_true]
      exact wfFrom_mono (by omega) (ih hm.2)
    · simp only [erase, hc, if_false, wfFrom, Bool.and_eq_true, decide_eq_true_eq]
      exact ⟨hm.1, ih hm.2⟩

theorem wfFrom_insert {m : Memory} {lo x : Nat} {v : Byte} (hm : wfFrom lo m = true) (hx : lo ≤ x)
    (hb : x < 65536) (hv : v ≠ unlisted) (ha : absent m x) : wfFrom lo (insert m x v) = true := by
  induction m generalizing lo with
  | nil => simp [insert, wfFrom, hx, hb, hv]
  | cons c m ih =>
    have hc : c.1 ≠ x := ha c (by simp)
    simp only [wfFrom, Bool.and_eq_true, decide_eq_true_eq] at hm
    by_cases hl : x < c.1
    · simp only [insert, hl, if_true, wfFrom, Bool.and_eq_true, decide_eq_true_eq]
      exact ⟨⟨⟨hx, hb⟩, hv⟩, ⟨⟨hl, hm.1.1.2⟩, hm.1.2⟩, hm.2⟩
    · simp only [insert, hl, if_false, wfFrom, Bool.and_eq_true, decide_eq_true_eq]
      exact ⟨hm.1, ih hm.2 (by omega) fun d hd => ha d (by simp [hd])⟩

/-- A write to an address of the 16-bit space keeps the canonical form. -/
theorem wf_write {m : Memory} {x : Nat} {v : Byte} (hm : wf m = true) (hb : x < 65536) : wf (write m x v) = true := by
  unfold write wf
  split
  · exact wfFrom_erase hm
  · rename_i hv
    exact wfFrom_insert (wfFrom_erase hm) (Nat.zero_le x) hb hv (absent_erase m x)

/-- Bytes stored inside the 16-bit space keep the canonical form. -/
theorem wf_writeAll {m : Memory} {base : Nat} {vs : List Byte} (hm : wf m = true) (hb : base + vs.length ≤ 65536) :
    wf (writeAll m base vs) = true := by
  induction vs generalizing m base with
  | nil => exact hm
  | cons v vs ih =>
    simp only [List.length_cons] at hb
    exact ih (wf_write hm (by omega)) (by omega)

end Memory

end Sys2Proof.Machine
end

