-- ==== Sys2Proof/Laws/State.lean ====
section
/-! SUPPORT. One lemma per field per update of the state, true by rfl and tagged for simp, so that no later proof
unfolds a record update; and, for the updates that are not records (a register named by a code, a memory write, the
acts of the environment), which fields they leave alone. -/

namespace Sys2Proof.Machine

/-! ## Plain updates -/

@[simp] theorem setF_a (s : State) (v : Byte) : (s.setF v).a = s.a := rfl
@[simp] theorem setF_f (s : State) (v : Byte) : (s.setF v).f = v &&& 0xF0 := rfl
@[simp] theorem setF_b (s : State) (v : Byte) : (s.setF v).b = s.b := rfl
@[simp] theorem setF_c (s : State) (v : Byte) : (s.setF v).c = s.c := rfl
@[simp] theorem setF_d (s : State) (v : Byte) : (s.setF v).d = s.d := rfl
@[simp] theorem setF_e (s : State) (v : Byte) : (s.setF v).e = s.e := rfl
@[simp] theorem setF_h (s : State) (v : Byte) : (s.setF v).h = s.h := rfl
@[simp] theorem setF_l (s : State) (v : Byte) : (s.setF v).l = s.l := rfl
@[simp] theorem setF_sp (s : State) (v : Byte) : (s.setF v).sp = s.sp := rfl
@[simp] theorem setF_pc (s : State) (v : Byte) : (s.setF v).pc = s.pc := rfl
@[simp] theorem setF_ime (s : State) (v : Byte) : (s.setF v).ime = s.ime := rfl
@[simp] theorem setF_mode (s : State) (v : Byte) : (s.setF v).mode = s.mode := rfl
@[simp] theorem setF_eiPending (s : State) (v : Byte) : (s.setF v).eiPending = s.eiPending := rfl
@[simp] theorem setF_stepCycles (s : State) (v : Byte) : (s.setF v).stepCycles = s.stepCycles := rfl
@[simp] theorem setF_totalCycles (s : State) (v : Byte) : (s.setF v).totalCycles = s.totalCycles := rfl
@[simp] theorem setF_mem (s : State) (v : Byte) : (s.setF v).mem = s.mem := rfl
@[simp] theorem setF_boot (s : State) (v : Byte) : (s.setF v).boot = s.boot := rfl
@[simp] theorem setF_env (s : State) (v : Byte) : (s.setF v).env = s.env := rfl
@[simp] theorem setF_cfg (s : State) (v : Byte) : (s.setF v).cfg = s.cfg := rfl

@[simp] theorem setFlags_a (s : State) (fl : Flags) : (s.setFlags fl).a = s.a := rfl
@[simp] theorem setFlags_f (s : State) (fl : Flags) : (s.setFlags fl).f = fl.toByte &&& 0xF0 := rfl
@[simp] theorem setFlags_b (s : State) (fl : Flags) : (s.setFlags fl).b = s.b := rfl
@[simp] theorem setFlags_c (s : State) (fl : Flags) : (s.setFlags fl).c = s.c := rfl
@[simp] theorem setFlags_d (s : State) (fl : Flags) : (s.setFlags fl).d = s.d := rfl
@[simp] theorem setFlags_e (s : State) (fl : Flags) : (s.setFlags fl).e = s.e := rfl
@[simp] theorem setFlags_h (s : State) (fl : Flags) : (s.setFlags fl).h = s.h := rfl
@[simp] theorem setFlags_l (s : State) (fl : Flags) : (s.setFlags fl).l = s.l := rfl
@[simp] theorem setFlags_sp (s : State) (fl : Flags) : (s.setFlags fl).sp = s.sp := rfl
@[simp] theorem setFlags_pc (s : State) (fl : Flags) : (s.setFlags fl).pc = s.pc := rfl
@[simp] theorem setFlags_ime (s : State) (fl : Flags) : (s.setFlags fl).ime = s.ime := rfl
@[simp] theorem setFlags_mode (s : State) (fl : Flags) : (s.setFlags fl).mode = s.mode := rfl
@[simp] theorem setFlags_eiPending (s : State) (fl : Flags) : (s.setFlags fl).eiPending = s.eiPending := rfl
@[simp] theorem setFlags_stepCycles (s : State) (fl : Flags) : (s.setFlags fl).stepCycles = s.stepCycles := rfl
@[simp] theorem setFlags_totalCycles (s : State) (fl : Flags) : (s.setFlags fl).totalCycles = s.totalCycles := rfl
@[simp] theorem setFlags_mem (s : State) (fl : Flags) : (s.setFlags fl).mem = s.mem := rfl
@[simp] theorem setFlags_boot (s : State) (fl : Flags) : (s.setFlags fl).boot = s.boot := rfl
@[simp] theorem setFlags_env (s : State) (fl : Flags) : (s.setFlags fl).env = s.env := rfl
@[simp] theorem setFlags_cfg (s : State) (fl : Flags) : (s.setFlags fl).cfg = s.cfg := rfl

@[simp] theorem setBc_a (s : State) (v : Word) : (s.setBc v).a = s.a := rfl
@[simp] theorem setBc_f (s : State) (v : Word) : (s.setBc v).f = s.f := rfl
@[simp] theorem setBc_b (s : State) (v : Word) : (s.setBc v).b = hiByte v := rfl
@[simp] theorem setBc_c (s : State) (v : Word) : (s.setBc v).c = loByte v := rfl
@[simp] theorem setBc_d (s : State) (v : Word) : (s.setBc v).d = s.d := rfl
@[simp] theorem setBc_e (s : State) (v : Word) : (s.setBc v).e = s.e := rfl
@[simp] theorem setBc_h (s : State) (v : Word) : (s.setBc v).h = s.h := rfl
@[simp] theorem setBc_l (s : State) (v : Word) : (s.setBc v).l = s.l := rfl
@[simp] theorem setBc_sp (s : State) (v : Word) : (s.setBc v).sp = s.sp := rfl
@[simp] theorem setBc_pc (s : State) (v : Word) : (s.setBc v).pc = s.pc := rfl
@[simp] theorem setBc_ime (s : State) (v : Word) : (s.setBc v).ime = s.ime := rfl
@[simp] theorem setBc_mode (s : State) (v : Word) : (s.setBc v).mode = s.mode := rfl
@[simp] theorem setBc_eiPending (s : State) (v : Word) : (s.setBc v).eiPending = s.eiPending := rfl
@[simp] theorem setBc_stepCycles (s : State) (v : Word) : (s.setBc v).stepCycles = s.stepCycles := rfl
@[simp] theorem setBc_totalCycles (s : State) (v : Word) : (s.setBc v).totalCycles = s.totalCycles := rfl
@[simp] theorem setBc_mem (s : State) (v : Word) : (s.setBc v).mem = s.mem := rfl
@[simp] theorem setBc_boot (s : State) (v : Word) : (s.setBc v).boot = s.boot := rfl
@[simp] theorem setBc_env (s : State) (v : Word) : (s.setBc v).env = s.env := rfl
@[simp] theorem setBc_cfg (s : State) (v : Word) : (s.setBc v).cfg = s.cfg := rfl

@[simp] theorem setDe_a (s : State) (v : Word) : (s.setDe v).a = s.a := rfl
@[simp] theorem setDe_f (s : State) (v : Word) : (s.setDe v).f = s.f := rfl
@[simp] theorem setDe_b (s : State) (v : Word) : (s.setDe v).b = s.b := rfl
@[simp] theorem setDe_c (s : State) (v : Word) : (s.setDe v).c = s.c := rfl
@[simp] theorem setDe_d (s : State) (v : Word) : (s.setDe v).d = hiByte v := rfl
@[simp] theorem setDe_e (s : State) (v : Word) : (s.setDe v).e = loByte v := rfl
@[simp] theorem setDe_h (s : State) (v : Word) : (s.setDe v).h = s.h := rfl
@[simp] theorem setDe_l (s : State) (v : Word) : (s.setDe v).l = s.l := rfl
@[simp] theorem setDe_sp (s : State) (v : Word) : (s.setDe v).sp = s.sp := rfl
@[simp] theorem setDe_pc (s : State) (v : Word) : (s.setDe v).pc = s.pc := rfl
@[simp] theorem setDe_ime (s : State) (v : Word) : (s.setDe v).ime = s.ime := rfl
@[simp] theorem setDe_mode (s : State) (v : Word) : (s.setDe v).mode = s.mode := rfl
@[simp] theorem setDe_eiPending (s : State) (v : Word) : (s.setDe v).eiPending = s.eiPending := rfl
@[simp] theorem setDe_stepCycles (s : State) (v : Word) : (s.setDe v).stepCycles = s.stepCycles := rfl
@[simp] theorem setDe_totalCycles (s : State) (v : Word) : (s.setDe v).totalCycles = s.totalCycles := rfl
@[simp] theorem setDe_mem (s : State) (v : Word) : (s.setDe v).mem = s.mem := rfl
@[simp] theorem setDe_boot (s : State) (v : Word) : (s.setDe v).boot = s.boot := rfl
@[simp] theorem setDe_env (s : State) (v : Word) : (s.setDe v).env = s.env := rfl
@[simp] theorem setDe_cfg (s : State) (v : Word) : (s.setDe v).cfg = s.cfg := rfl

@[simp] theorem setHl_a (s : State) (v : Word) : (s.setHl v).a = s.a := rfl
@[simp] theorem setHl_f (s : State) (v : Word) : (s.setHl v).f = s.f := rfl
@[simp] theorem setHl_b (s : State) (v : Word) : (s.setHl v).b = s.b := rfl
@[simp] theorem setHl_c (s : State) (v : Word) : (s.setHl v).c = s.c := rfl
@[simp] theorem setHl_d (s : State) (v : Word) : (s.setHl v).d = s.d := rfl
@[simp] theorem setHl_e (s : State) (v : Word) : (s.setHl v).e = s.e := rfl
@[simp] theorem setHl_h (s : State) (v : Word) : (s.setHl v).h = hiByte v := rfl
@[simp] theorem setHl_l (s : State) (v : Word) : (s.setHl v).l = loByte v := rfl
@[simp] theorem setHl_sp (s : State) (v : Word) : (s.setHl v).sp = s.sp := rfl
@[simp] theorem setHl_pc (s : State) (v : Word) : (s.setHl v).pc = s.pc := rfl
@[simp] theorem setHl_ime (s : State) (v : Word) : (s.setHl v).ime = s.ime := rfl
@[simp] theorem setHl_mode (s : State) (v : Word) : (s.setHl v).mode = s.mode := rfl
@[simp] theorem setHl_eiPending (s : State) (v : Word) : (s.setHl v).eiPending = s.eiPending := rfl
@[simp] theorem setHl_stepCycles (s : State) (v : Word) : (s.setHl v).stepCycles = s.stepCycles := rfl
@[simp] theorem setHl_totalCycles (s : State) (v : Word) : (s.setHl v).totalCycles = s.totalCycles := rfl
@[simp] theorem setHl_mem (s : State) (v : Word) : (s.setHl v).mem = s.mem := rfl
@[simp] theorem setHl_boot (s : State) (v : Word) : (s.setHl v).boot = s.boot := rfl
@[simp] theorem setHl_env (s : State) (v : Word) : (s.setHl v).env = s.env := rfl
@[simp] theorem setHl_cfg (s : State) (v : Word) : (s.setHl v).cfg = s.cfg := rfl

@[simp] theorem setAf_a (s : State) (v : Word) : (s.setAf v).a = hiByte v := rfl
@[simp] theorem setAf_f (s : State) (v : Word) : (s.setAf v).f = loByte v &&& 0xF0 := rfl
@[simp] theorem setAf_b (s : State) (v : Word) : (s.setAf v).b = s.b := rfl
@[simp] theorem setAf_c (s : State) (v : Word) : (s.setAf v).c = s.c := rfl
@[simp] theorem setAf_d (s : State) (v : Word) : (s.setAf v).d = s.d := rfl
@[simp] theorem setAf_e (s : State) (v : Word) : (s.setAf v).e = s.e := rfl
@[simp] theorem setAf_h (s : State) (v : Word) : (s.setAf v).h = s.h := rfl
@[simp] theorem setAf_l (s : State) (v : Word) : (s.setAf v).l = s.l := rfl
@[simp] theorem setAf_sp (s : State) (v : Word) : (s.setAf v).sp = s.sp := rfl
@[simp] theorem setAf_pc (s : State) (v : Word) : (s.setAf v).pc = s.pc := rfl
@[simp] theorem setAf_ime (s : State) (v : Word) : (s.setAf v).ime = s.ime := rfl
@[simp] theorem setAf_mode (s : State) (v : Word) : (s.setAf v).mode = s.mode := rfl
@[simp] theorem setAf_eiPending (s : State) (v : Word) : (s.setAf v).eiPending = s.eiPending := rfl
@[simp] theorem setAf_stepCycles (s : State) (v : Word) : (s.setAf v).stepCycles = s.stepCycles := rfl
@[simp] theorem setAf_totalCycles (s : State) (v : Word) : (s.setAf v).totalCycles = s.totalCycles := rfl
@[simp] theorem setAf_mem (s : State) (v : Word) : (s.setAf v).mem = s.mem := rfl
@[simp] theorem setAf_boot (s : State) (v : Word) : (s.setAf v).boot = s.boot := rfl
@[simp] theorem setAf_env (s : State) (v : Word) : (s.setAf v).env = s.env := rfl
@[simp] theorem setAf_cfg (s : State) (v : Word) : (s.setAf v).cfg = s.cfg := rfl

@[simp] theorem setSp_a (s : State) (v : Word) : (s.setSp v).a = s.a := rfl
@[simp] theorem setSp_f (s : State) (v : Word) : (s.setSp v).f = s.f := rfl
@[simp] theorem setSp_b (s : State) (v : Word) : (s.setSp v).b = s.b := rfl
@[simp] theorem setSp_c (s : State) (v : Word) : (s.setSp v).c = s.c := rfl
@[simp] theorem setSp_d (s : State) (v : Word) : (s.setSp v).d = s.d := rfl
@[simp] theorem setSp_e (s : State) (v : Word) : (s.setSp v).e = s.e := rfl
@[simp] theorem setSp_h (s : State) (v : Word) : (s.setSp v).h = s.h := rfl
@[simp] theorem setSp_l (s : State) (v : Word) : (s.setSp v).l = s.l := rfl
@[simp] theorem setSp_sp (s : State) (v : Word) : (s.setSp v).sp = v := rfl
@[simp] theorem setSp_pc (s : State) (v : Word) : (s.setSp v).pc = s.pc := rfl
@[simp] theorem setSp_ime (s : State) (v : Word) : (s.setSp v).ime = s.ime := rfl
@[simp] theorem setSp_mode (s : State) (v : Word) : (s.setSp v).mode = s.mode := rfl
@[simp] theorem setSp_eiPending (s : State) (v : Word) : (s.setSp v).eiPending = s.eiPending := rfl
@[simp] theorem setSp_stepCycles (s : State) (v : Word) : (s.setSp v).stepCycles = s.stepCycles := rfl
@[simp] theorem setSp_totalCycles (s : State) (v : Word) : (s.setSp v).totalCycles = s.totalCycles := rfl
@[simp] theorem setSp_mem (s : State) (v : Word) : (s.setSp v).mem = s.mem := rfl
@[simp] theorem setSp_boot (s : State) (v : Word) : (s.setSp v).boot = s.boot := rfl
@[simp] theorem setSp_env (s : State) (v : Word) : (s.setSp v).env = s.env := rfl
@[simp] theorem setSp_cfg (s : State) (v : Word) : (s.setSp v).cfg = s.cfg := rfl

@[simp] theorem setPc_a (s : State) (v : Word) : (s.setPc v).a = s.a := rfl
@[simp] theorem setPc_f (s : State) (v : Word) : (s.setPc v).f = s.f := rfl
@[simp] theorem setPc_b (s : State) (v : Word) : (s.setPc v).b = s.b := rfl
@[simp] theorem setPc_c (s : State) (v : Word) : (s.setPc v).c = s.c := rfl
@[simp] theorem setPc_d (s : State) (v : Word) : (s.setPc v).d = s.d := rfl
@[simp] theorem setPc_e (s : State) (v : Word) : (s.setPc v).e = s.e := rfl
@[simp] theorem setPc_h (s : State) (v : Word) : (s.setPc v).h = s.h := rfl
@[simp] theorem setPc_l (s : State) (v : Word) : (s.setPc v).l = s.l := rfl
@[simp] theorem setPc_sp (s : State) (v : Word) : (s.setPc v).sp = s.sp := rfl
@[simp] theorem setPc_pc (s : State) (v : Word) : (s.setPc v).pc = v := rfl
@[simp] theorem setPc_ime (s : State) (v : Word) : (s.setPc v).ime = s.ime := rfl
@[simp] theorem setPc_mode (s : State) (v : Word) : (s.setPc v).mode = s.mode := rfl
@[simp] theorem setPc_eiPending (s : State) (v : Word) : (s.setPc v).eiPending = s.eiPending := rfl
@[simp] theorem setPc_stepCycles (s : State) (v : Word) : (s.setPc v).stepCycles = s.stepCycles := rfl
@[simp] theorem setPc_totalCycles (s : State) (v : Word) : (s.setPc v).totalCycles = s.totalCycles := rfl
@[simp] theorem setPc_mem (s : State) (v : Word) : (s.setPc v).mem = s.mem := rfl
@[simp] theorem setPc_boot (s : State) (v : Word) : (s.setPc v).boot = s.boot := rfl
@[simp] theorem setPc_env (s : State) (v : Word) : (s.setPc v).env = s.env := rfl
@[simp] theorem setPc_cfg (s : State) (v : Word) : (s.setPc v).cfg = s.cfg := rfl

@[simp] theorem cycles_a (s : State) (n : Nat) : (s.cycles n).a = s.a := rfl
@[simp] theorem cycles_f (s : State) (n : Nat) : (s.cycles n).f = s.f := rfl
@[simp] theorem cycles_b (s : State) (n : Nat) : (s.cycles n).b = s.b := rfl
@[simp] theorem cycles_c (s : State) (n : Nat) : (s.cycles n).c = s.c := rfl
@[simp] theorem cycles_d (s : State) (n : Nat) : (s.cycles n).d = s.d := rfl
@[simp] theorem cycles_e (s : State) (n : Nat) : (s.cycles n).e = s.e := rfl
@[simp] theorem cycles_h (s : State) (n : Nat) : (s.cycles n).h = s.h := rfl
@[simp] theorem cycles_l (s : State) (n : Nat) : (s.cycles n).l = s.l := rfl
@[simp] theorem cycles_sp (s : State) (n : Nat) : (s.cycles n).sp = s.sp := rfl
@[simp] theorem cycles_pc (s : State) (n : Nat) : (s.cycles n).pc = s.pc := rfl
@[simp] theorem cycles_ime (s : State) (n : Nat) : (s.cycles n).ime = s.ime := rfl
@[simp] theorem cycles_mode (s : State) (n : Nat) : (s.cycles n).mode = s.mode := rfl
@[simp] theorem cycles_eiPending (s : State) (n : Nat) : (s.cycles n).eiPending = s.eiPending := rfl
@[simp] theorem cycles_stepCycles (s : State) (n : Nat) : (s.cycles n).stepCycles = n := rfl
@[simp] theorem cycles_totalCycles (s : State) (n : Nat) : (s.cycles n).totalCycles = s.totalCycles + n := rfl
@[simp] theorem cycles_mem (s : State) (n : Nat) : (s.cycles n).mem = s.mem := rfl
@[simp] theorem cycles_boot (s : State) (n : Nat) : (s.cycles n).boot = s.boot := rfl
@[simp] theorem cycles_env (s : State) (n : Nat) : (s.cycles n).env = s.env := rfl
@[simp] theorem cycles_cfg (s : State) (n : Nat) : (s.cycles n).cfg = s.cfg := rfl

@[simp] theorem moreCycles_a (s : State) (n : Nat) : (s.moreCycles n).a = s.a := rfl
@[simp] theorem moreCycles_f (s : State) (n : Nat) : (s.moreCycles n).f = s.f := rfl
@[simp] theorem moreCycles_b (s : State) (n : Nat) : (s.moreCycles n).b = s.b := rfl
@[simp] theorem moreCycles_c (s : State) (n : Nat) : (s.moreCycles n).c = s.c := rfl
@[simp] theorem moreCycles_d (s : State) (n : Nat) : (s.moreCycles n).d = s.d := rfl
@[simp] theorem moreCycles_e (s : State) (n : Nat) : (s.moreCycles n).e = s.e := rfl
@[simp] theorem moreCycles_h (s : State) (n : Nat) : (s.moreCycles n).h = s.h := rfl
@[simp] theorem moreCycles_l (s : State) (n : Nat) : (s.moreCycles n).l = s.l := rfl
@[simp] theorem moreCycles_sp (s : State) (n : Nat) : (s.moreCycles n).sp = s.sp := rfl
@[simp] theorem moreCycles_pc (s : State) (n : Nat) : (s.moreCycles n).pc = s.pc := rfl
@[simp] theorem moreCycles_ime (s : State) (n : Nat) : (s.moreCycles n).ime = s.ime := rfl
@[simp] theorem moreCycles_mode (s : State) (n : Nat) : (s.moreCycles n).mode = s.mode := rfl
@[simp] theorem moreCycles_eiPending (s : State) (n : Nat) : (s.moreCycles n).eiPending = s.eiPending := rfl
@[simp] theorem moreCycles_stepCycles (s : State) (n : Nat) : (s.moreCycles n).stepCycles = s.stepCycles + n := rfl
@[simp] theorem moreCycles_totalCycles (s : State) (n : Nat) : (s.moreCycles n).totalCycles = s.totalCycles + n := rfl
@[simp] theorem moreCycles_mem (s : State) (n : Nat) : (s.moreCycles n).mem = s.mem := rfl
@[simp] theorem moreCycles_boot (s : State) (n : Nat) : (s.moreCycles n).boot = s.boot := rfl
@[simp] theorem moreCycles_env (s : State) (n : Nat) : (s.moreCycles n).env = s.env := rfl
@[simp] theorem moreCycles_cfg (s : State) (n : Nat) : (s.moreCycles n).cfg = s.cfg := rfl

@[simp] theorem setMode_a (s : State) (m : Mode) : (s.setMode m).a = s.a := rfl
@[simp] theorem setMode_f (s : State) (m : Mode) : (s.setMode m).f = s.f := rfl
@[simp] theorem setMode_b (s : State) (m : Mode) : (s.setMode m).b = s.b := rfl
@[simp] theorem setMode_c (s : State) (m : Mode) : (s.setMode m).c = s.c := rfl
@[simp] theorem setMode_d (s : State) (m : Mode) : (s.setMode m).d = s.d := rfl
@[simp] theorem setMode_e (s : State) (m : Mode) : (s.setMode m).e = s.e := rfl
@[simp] theorem setMode_h (s : State) (m : Mode) : (s.setMode m).h = s.h := rfl
@[simp] theorem setMode_l (s : State) (m : Mode) : (s.setMode m).l = s.l := rfl
@[simp] theorem setMode_sp (s : State) (m : Mode) : (s.setMode m).sp = s.sp := rfl
@[simp] theorem setMode_pc (s : State) (m : Mode) : (s.setMode m).pc = s.pc := rfl
@[simp] theorem setMode_ime (s : State) (m : Mode) : (s.setMode m).ime = s.ime := rfl
@[simp] theorem setMode_mode (s : State) (m : Mode) : (s.setMode m).mode = m := rfl
@[simp] theorem setMode_eiPending (s : State) (m : Mode) : (s.setMode m).eiPending = s.eiPending := rfl
@[simp] theorem setMode_stepCycles (s : State) (m : Mode) : (s.setMode m).stepCycles = s.stepCycles := rfl
@[simp] theorem setMode_totalCycles (s : State) (m : Mode) : (s.setMode m).totalCycles = s.totalCycles := rfl
@[simp] theorem setMode_mem (s : State) (m : Mode) : (s.setMode m).mem = s.mem := rfl
@[simp] theorem setMode_boot (s : State) (m : Mode) : (s.setMode m).boot = s.boot := rfl
@[simp] theorem setMode_env (s : State) (m : Mode) : (s.setMode m).env = s.env := rfl
@[simp] theorem setMode_cfg (s : State) (m : Mode) : (s.setMode m).cfg = s.cfg := rfl

@[simp] theorem raiseDecodeFault_a (s : State) (op : Byte) (p : Word) : (s.raiseDecodeFault op p).a = s.a := rfl
@[simp] theorem raiseDecodeFault_f (s : State) (op : Byte) (p : Word) : (s.raiseDecodeFault op p).f = s.f := rfl
@[simp] theorem raiseDecodeFault_b (s : State) (op : Byte) (p : Word) : (s.raiseDecodeFault op p).b = s.b := rfl
@[simp] theorem raiseDecodeFault_c (s : State) (op : Byte) (p : Word) : (s.raiseDecodeFault op p).c = s.c := rfl
@[simp] theorem raiseDecodeFault_d (s : State) (op : Byte) (p : Word) : (s.raiseDecodeFault op p).d = s.d := rfl
@[simp] theorem raiseDecodeFault_e (s : State) (op : Byte) (p : Word) : (s.raiseDecodeFault op p).e = s.e := rfl
@[simp] theorem raiseDecodeFault_h (s : State) (op : Byte) (p : Word) : (s.raiseDecodeFault op p).h = s.h := rfl
@[simp] theorem raiseDecodeFault_l (s : State) (op : Byte) (p : Word) : (s.raiseDecodeFault op p).l = s.l := rfl
@[simp] theorem raiseDecodeFault_sp (s : State) (op : Byte) (p : Word) : (s.raiseDecodeFault op p).sp = s.sp := rfl
@[simp] theorem raiseDecodeFault_pc (s : State) (op : Byte) (p : Word) : (s.raiseDecodeFault op p).pc = s.pc := rfl
@[simp] theorem raiseDecodeFault_ime (s : State) (op : Byte) (p : Word) : (s.raiseDecodeFault op p).ime = s.ime := rfl
@[simp] theorem raiseDecodeFault_mode (s : State) (op : Byte) (p : Word) : (s.raiseDecodeFault op p).mode = .fault op p := rfl
@[simp] theorem raiseDecodeFault_eiPending (s : State) (op : Byte) (p : Word) : (s.raiseDecodeFault op p).eiPending = s.eiPending := rfl
@[simp] theorem raiseDecodeFault_stepCycles (s : State) (op : Byte) (p : Word) : (s.raiseDecodeFault op p).stepCycles = s.stepCycles := rfl
@[simp] theorem raiseDecodeFault_totalCycles (s : State) (op : Byte) (p : Word) : (s.raiseDecodeFault op p).totalCycles = s.totalCycles := rfl
@[simp] theorem raiseDecodeFault_mem (s : State) (op : Byte) (p : Word) : (s.raiseDecodeFault op p).mem = s.mem := rfl
@[simp] theorem raiseDecodeFault_boot (s : State) (op : Byte) (p : Word) : (s.raiseDecodeFault op p).boot = s.boot := rfl
@[simp] theorem raiseDecodeFault_env (s : State) (op : Byte) (p : Word) : (s.raiseDecodeFault op p).env = s.env := rfl
@[simp] theorem raiseDecodeFault_cfg (s : State) (op : Byte) (p : Word) : (s.raiseDecodeFault op p).cfg = s.cfg := rfl

/-! ## A register, or a pair, named by its code -/

@[simp] theorem setReg_f (s : State) (r : Reg8) (v : Byte) : (s.setReg r v).f = s.f := by
  cases r <;> rfl
@[simp] theorem setReg_sp (s : State) (r : Reg8) (v : Byte) : (s.setReg r v).sp = s.sp := by
  cases r <;> rfl
@[simp] theorem setReg_pc (s : State) (r : Reg8) (v : Byte) : (s.setReg r v).pc = s.pc := by
  cases r <;> rfl
@[simp] theorem setReg_ime (s : State) (r : Reg8) (v : Byte) : (s.setReg r v).ime = s.ime := by
  cases r <;> rfl
@[simp] theorem setReg_mode (s : State) (r : Reg8) (v : Byte) : (s.setReg r v).mode = s.mode := by
  cases r <;> rfl
@[simp] theorem setReg_eiPending (s : State) (r : Reg8) (v : Byte) : (s.setReg r v).eiPending = s.eiPending := by
  cases r <;> rfl
@[simp] theorem setReg_stepCycles (s : State) (r : Reg8) (v : Byte) : (s.setReg r v).stepCycles = s.stepCycles := by
  cases r <;> rfl
@[simp] theorem setReg_totalCycles (s : State) (r : Reg8) (v : Byte) : (s.setReg r v).totalCycles = s.totalCycles := by
  cases r <;> rfl
@[simp] theorem setReg_mem (s : State) (r : Reg8) (v : Byte) : (s.setReg r v).mem = s.mem := by
  cases r <;> rfl
@[simp] theorem setReg_boot (s : State) (r : Reg8) (v : Byte) : (s.setReg r v).boot = s.boot := by
  cases r <;> rfl
@[simp] theorem setReg_env (s : State) (r : Reg8) (v : Byte) : (s.setReg r v).env = s.env := by
  cases r <;> rfl
@[simp] theorem setReg_cfg (s : State) (r : Reg8) (v : Byte) : (s.setReg r v).cfg = s.cfg := by
  cases r <;> rfl
@[simp] theorem setPair_a (s : State) (p : Pair) (v : Word) : (s.setPair p v).a = s.a := by
  cases p <;> rfl
@[simp] theorem setPair_f (s : State) (p : Pair) (v : Word) : (s.setPair p v).f = s.f := by
  cases p <;> rfl
@[simp] theorem setPair_pc (s : State) (p : Pair) (v : Word) : (s.setPair p v).pc = s.pc := by
  cases p <;> rfl
@[simp] theorem setPair_ime (s : State) (p : Pair) (v : Word) : (s.setPair p v).ime = s.ime := by
  cases p <;> rfl
@[simp] theorem setPair_mode (s : State) (p : Pair) (v : Word) : (s.setPair p v).mode = s.mode := by
  cases p <;> rfl
@[simp] theorem setPair_eiPending (s : State) (p : Pair) (v : Word) : (s.setPair p v).eiPending = s.eiPending := by
  cases p <;> rfl
@[simp] theorem setPair_stepCycles (s : State) (p : Pair) (v : Word) : (s.setPair p v).stepCycles = s.stepCycles := by
  cases p <;> rfl
@[simp] theorem setPair_totalCycles (s : State) (p : Pair) (v : Word) : (s.setPair p v).totalCycles = s.totalCycles := by
  cases p <;> rfl
@[simp] theorem setPair_mem (s : State) (p : Pair) (v : Word) : (s.setPair p v).mem = s.mem := by
  cases p <;> rfl
@[simp] theorem setPair_boot (s : State) (p : Pair) (v : Word) : (s.setPair p v).boot = s.boot := by
  cases p <;> rfl
@[simp] theorem setPair_env (s : State) (p : Pair) (v : Word) : (s.setPair p v).env = s.env := by
  cases p <;> rfl
@[simp] theorem setPair_cfg (s : State) (p : Pair) (v : Word) : (s.setPair p v).cfg = s.cfg := by
  cases p <;> rfl
@[simp] theorem setStackPair_sp (s : State) (p : StackPair) (v : Word) : (s.setStackPair p v).sp = s.sp := by
  cases p <;> rfl
@[simp] theorem setStackPair_pc (s : State) (p : StackPair) (v : Word) : (s.setStackPair p v).pc = s.pc := by
  cases p <;> rfl
@[simp] theorem setStackPair_ime (s : State) (p : StackPair) (v : Word) : (s.setStackPair p v).ime = s.ime := by
  cases p <;> rfl
@[simp] theorem setStackPair_mode (s : State) (p : StackPair) (v : Word) : (s.setStackPair p v).mode = s.mode := by
  cases p <;> rfl
@[simp] theorem setStackPair_eiPending (s : State) (p : StackPair) (v : Word) : (s.setStackPair p v).eiPending = s.eiPending := by
  cases p <;> rfl
@[simp] theorem setStackPair_stepCycles (s : State) (p : StackPair) (v : Word) : (s.setStackPair p v).stepCycles = s.stepCycles := by
  cases p <;> rfl
@[simp] theorem setStackPair_totalCycles (s : State) (p : StackPair) (v : Word) : (s.setStackPair p v).totalCycles = s.totalCycles := by
  cases p <;> rfl
@[simp] theorem setStackPair_mem (s : State) (p : StackPair) (v : Word) : (s.setStackPair p v).mem = s.mem := by
  cases p <;> rfl
@[simp] theorem setStackPair_boot (s : State) (p : StackPair) (v : Word) : (s.setStackPair p v).boot = s.boot := by
  cases p <;> rfl
@[simp] theorem setStackPair_env (s : State) (p : StackPair) (v : Word) : (s.setStackPair p v).env = s.env := by
  cases p <;> rfl
@[simp] theorem setStackPair_cfg (s : State) (p : StackPair) (v : Word) : (s.setStackPair p v).cfg = s.cfg := by
  cases p <;> rfl

@[simp] theorem reg_setReg_same (s : State) (r : Reg8) (v : Byte) : (s.setReg r v).reg r = v := by
  cases r <;> rfl

theorem reg_setReg_ne (s : State) {r r' : Reg8} (v : Byte) (h : r' ≠ r) : (s.setReg r v).reg r' = s.reg r' := by
  cases r <;> cases r' <;> first | rfl | exact absurd rfl h

/-! ## The memory port and the environment

`memWrite` changes `mem` and `boot` alone; what lands of the environment changes `mem`, `boot` and `env` alone. -/

/-- A memory write changes nothing but the two stores. -/
theorem memWrite_eq (s : State) (x : Word) (v : Byte) : ∃ m o, s.memWrite x v = { s with mem := m, boot := o } := by
  unfold State.memWrite
  split
  · split <;> exact ⟨_, _, rfl⟩
  · exact ⟨_, _, rfl⟩

/-- A write of another agent changes nothing but the two stores. -/
theorem envWrite_eq (s : State) (x : Word) (v : Byte) : ∃ m o, s.envWrite x v = { s with mem := m, boot := o } := by
  unfold State.envWrite
  split
  · exact ⟨_, _, rfl⟩
  · exact memWrite_eq s x v

/-- One act of the environment changes nothing but the two stores. -/
theorem applyEnv_eq (s : State) (act : EnvAct) : ∃ m o, s.applyEnv act = { s with mem := m, boot := o } := by
  cases act with
  | write x v => exact envWrite_eq s x v
  | post k => exact memWrite_eq s ifAddr _

/-- The acts of one point change nothing but the two stores. -/
theorem applyEnvs_eq (acts : List EnvAct) (s : State) :
    ∃ m o, s.applyEnvs acts = { s with mem := m, boot := o } := by
  induction acts generalizing s with
  | nil => exact ⟨_, _, rfl⟩
  | cons act acts ih =>
    obtain ⟨m, o, h⟩ := applyEnv_eq s act
    obtain ⟨m', o', h'⟩ := ih (s.applyEnv act)
    refine ⟨m', o', ?_⟩
    have hc : s.applyEnvs (act :: acts) = (s.applyEnv act).applyEnvs acts := rfl
    rw [hc, h', h]

/-- What lands changes nothing but the two stores and the acts still to come. -/
theorem landEnv_eq (s : State) : ∃ m o q, s.landEnv = { s with mem := m, boot := o, env := q } := by
  unfold State.landEnv
  split
  · exact ⟨_, _, _, rfl⟩
  · rename_i acts later _
    obtain ⟨m, o, h⟩ := applyEnvs_eq acts { s with env := later }
    exact ⟨m, o, later, h⟩

/-- The point after an access changes nothing but the two stores and the acts still to come. -/
theorem afterAccess_eq (s : State) : ∃ m o q, s.afterAccess = { s with mem := m, boot := o, env := q } := by
  unfold State.afterAccess
  split
  · exact ⟨_, _, _, rfl⟩
  · exact landEnv_eq s

@[simp] theorem memWrite_a (s : State) (x : Word) (v : Byte) : (s.memWrite x v).a = s.a := by
  obtain ⟨_, _, h⟩ := memWrite_eq s x v
  rw [h]
@[simp] theorem memWrite_f (s : State) (x : Word) (v : Byte) : (s.memWrite x v).f = s.f := by
  obtain ⟨_, _, h⟩ := memWrite_eq s x v
  rw [h]
@[simp] theorem memWrite_b (s : State) (x : Word) (v : Byte) : (s.memWrite x v).b = s.b := by
  obtain ⟨_, _, h⟩ := memWrite_eq s x v
  rw [h]
@[simp] theorem memWrite_c (s : State) (x : Word) (v : Byte) : (s.memWrite x v).c = s.c := by
  obtain ⟨_, _, h⟩ := memWrite_eq s x v
  rw [h]
@[simp] theorem memWrite_d (s : State) (x : Word) (v : Byte) : (s.memWrite x v).d = s.d := by
  obtain ⟨_, _, h⟩ := memWrite_eq s x v
  rw [h]
@[simp] theorem memWrite_e (s : State) (x : Word) (v : Byte) : (s.memWrite x v).e = s.e := by
  obtain ⟨_, _, h⟩ := memWrite_eq s x v
  rw [h]
@[simp] theorem memWrite_h (s : State) (x : Word) (v : Byte) : (s.memWrite x v).h = s.h := by
  obtain ⟨_, _, h⟩ := memWrite_eq s x v
  rw [h]
@[simp] theorem memWrite_l (s : State) (x : Word) (v : Byte) : (s.memWrite x v).l = s.l := by
  obtain ⟨_, _, h⟩ := memWrite_eq s x v
  rw [h]
@[simp] theorem memWrite_sp (s : State) (x : Word) (v : Byte) : (s.memWrite x v).sp = s.sp := by
  obtain ⟨_, _, h⟩ := memWrite_eq s x v
  rw [h]
@[simp] theorem memWrite_pc (s : State) (x : Word) (v : Byte) : (s.memWrite x v).pc = s.pc := by
  obtain ⟨_, _, h⟩ := memWrite_eq s x v
  rw [h]
@[simp] theorem memWrite_ime (s : State) (x : Word) (v : Byte) : (s.memWrite x v).ime = s.ime := by
  obtain ⟨_, _, h⟩ := memWrite_eq s x v
  rw [h]
@[simp] theorem memWrite_mode (s : State) (x : Word) (v : Byte) : (s.memWrite x v).mode = s.mode := by
  obtain ⟨_, _, h⟩ := memWrite_eq s x v
  rw [h]
@[simp] theorem memWrite_eiPending (s : State) (x : Word) (v : Byte) : (s.memWrite x v).eiPending = s.eiPending := by
  obtain ⟨_, _, h⟩ := memWrite_eq s x v
  rw [h]
@[simp] theorem memWrite_stepCycles (s : State) (x : Word) (v : Byte) : (s.memWrite x v).stepCycles = s.stepCycles := by
  obtain ⟨_, _, h⟩ := memWrite_eq s x v
  rw [h]
@[simp] theorem memWrite_totalCycles (s : State) (x : Word) (v : Byte) : (s.memWrite x v).totalCycles = s.totalCycles := by
  obtain ⟨_, _, h⟩ := memWrite_eq s x v
  rw [h]
@[simp] theorem memWrite_env (s : State) (x : Word) (v : Byte) : (s.memWrite x v).env = s.env := by
  obtain ⟨_, _, h⟩ := memWrite_eq s x v
  rw [h]
@[simp] theorem memWrite_cfg (s : State) (x : Word) (v : Byte) : (s.memWrite x v).cfg = s.cfg := by
  obtain ⟨_, _, h⟩ := memWrite_eq s x v
  rw [h]

@[simp] theorem landEnv_a (s : State) : (s.landEnv).a = s.a := by
  obtain ⟨_, _, _, h⟩ := landEnv_eq s
  rw [h]
@[simp] theorem landEnv_f (s : State) : (s.landEnv).f = s.f := by
  obtain ⟨_, _, _, h⟩ := landEnv_eq s
  rw [h]
@[simp] theorem landEnv_b (s : State) : (s.landEnv).b = s.b := by
  obtain ⟨_, _, _, h⟩ := landEnv_eq s
  rw [h]
@[simp] theorem landEnv_c (s : State) : (s.landEnv).c = s.c := by
  obtain ⟨_, _, _, h⟩ := landEnv_eq s
  rw [h]
@[simp] theorem landEnv_d (s : State) : (s.landEnv).d = s.d := by
  obtain ⟨_, _, _, h⟩ := landEnv_eq s
  rw [h]
@[simp] theorem landEnv_e (s : State) : (s.landEnv).e = s.e := by
  obtain ⟨_, _, _, h⟩ := landEnv_eq s
  rw [h]
@[simp] theorem landEnv_h (s : State) : (s.landEnv).h = s.h := by
  obtain ⟨_, _, _, h⟩ := landEnv_eq s
  rw [h]
@[simp] theorem landEnv_l (s : State) : (s.landEnv).l = s.l := by
  obtain ⟨_, _, _, h⟩ := landEnv_eq s
  rw [h]
@[simp] theorem landEnv_sp (s : State) : (s.landEnv).sp = s.sp := by
  obtain ⟨_, _, _, h⟩ := landEnv_eq s
  rw [h]
@[simp] theorem landEnv_pc (s : State) : (s.landEnv).pc = s.pc := by
  obtain ⟨_, _, _, h⟩ := landEnv_eq s
  rw [h]
@[simp] theorem landEnv_ime (s : State) : (s.landEnv).ime = s.ime := by
  obtain ⟨_, _, _, h⟩ := landEnv_eq s
  rw [h]
@[simp] theorem landEnv_mode (s : State) : (s.landEnv).mode = s.mode := by
  obtain ⟨_, _, _, h⟩ := landEnv_eq s
  rw [h]
@[simp] theorem landEnv_eiPending (s : State) : (s.landEnv).eiPending = s.eiPending := by
  obtain ⟨_, _, _, h⟩ := landEnv_eq s
  rw [h]
@[simp] theorem landEnv_stepCycles (s : State) : (s.landEnv).stepCycles = s.stepCycles := by
  obtain ⟨_, _, _, h⟩ := landEnv_eq s
  rw [h]
@[simp] theorem landEnv_totalCycles (s : State) : (s.landEnv).totalCycles = s.totalCycles := by
  obtain ⟨_, _, _, h⟩ := landEnv_eq s
  rw [h]
@[simp] theorem landEnv_cfg (s : State) : (s.landEnv).cfg = s.cfg := by
  obtain ⟨_, _, _, h⟩ := landEnv_eq s
  rw [h]

@[simp] theorem afterAccess_a (s : State) : (s.afterAccess).a = s.a := by
  obtain ⟨_, _, _, h⟩ := afterAccess_eq s
  rw [h]
@[simp] theorem afterAccess_f (s : State) : (s.afterAccess).f = s.f := by
  obtain ⟨_, _, _, h⟩ := afterAccess_eq s
  rw [h]
@[simp] theorem afterAccess_b (s : State) : (s.afterAccess).b = s.b := by
  obtain ⟨_, _, _, h⟩ := afterAccess_eq s
  rw [h]
@[simp] theorem afterAccess_c (s : State) : (s.afterAccess).c = s.c := by
  obtain ⟨_, _, _, h⟩ := afterAccess_eq s
  rw [h]
@[simp] theorem afterAccess_d (s : State) : (s.afterAccess).d = s.d := by
  obtain ⟨_, _, _, h⟩ := afterAccess_eq s
  rw [h]
@[simp] theorem afterAccess_e (s : State) : (s.afterAccess).e = s.e := by
  obtain ⟨_, _, _, h⟩ := afterAccess_eq s
  rw [h]
@[simp] theorem afterAccess_h (s : State) : (s.afterAccess).h = s.h := by
  obtain ⟨_, _, _, h⟩ := afterAccess_eq s
  rw [h]
@[simp] theorem afterAccess_l (s : State) : (s.afterAccess).l = s.l := by
  obtain ⟨_, _, _, h⟩ := afterAccess_eq s
  rw [h]
@[simp] theorem afterAccess_sp (s : State) : (s.afterAccess).sp = s.sp := by
  obtain ⟨_, _, _, h⟩ := afterAccess_eq s
  rw [h]
@[simp] theorem afterAccess_pc (s : State) : (s.afterAccess).pc = s.pc := by
  obtain ⟨_, _, _, h⟩ := afterAccess_eq s
  rw [h]
@[simp] theorem afterAccess_ime (s : State) : (s.afterAccess).ime = s.ime := by
  obtain ⟨_, _, _, h⟩ := afterAccess_eq s
  rw [h]
@[simp] theorem afterAccess_mode (s : State) : (s.afterAccess).mode = s.mode := by
  obtain ⟨_, _, _, h⟩ := afterAccess_eq s
  rw [h]
@[simp] theorem afterAccess_eiPending (s : State) : (s.afterAccess).eiPending = s.eiPending := by
  obtain ⟨_, _, _, h⟩ := afterAccess_eq s
  rw [h]
@[simp] theorem afterAccess_stepCycles (s : State) : (s.afterAccess).stepCycles = s.stepCycles := by
  obtain ⟨_, _, _, h⟩ := afterAccess_eq s
  rw [h]
@[simp] theorem afterAccess_totalCycles (s : State) : (s.afterAccess).totalCycles = s.totalCycles := by
  obtain ⟨_, _, _, h⟩ := afterAccess_eq s
  rw [h]
@[simp] theorem afterAccess_cfg (s : State) : (s.afterAccess).cfg = s.cfg := by
  obtain ⟨_, _, _, h⟩ := afterAccess_eq s
  rw [h]

@[simp] theorem store_a (s : State) (x : Word) (v : Byte) : (s.store x v).a = s.a := by
  simp [State.store]
@[simp] theorem store_f (s : State) (x : Word) (v : Byte) : (s.store x v).f = s.f := by
  simp [State.store]
@[simp] theorem store_b (s : State) (x : Word) (v : Byte) : (s.store x v).b = s.b := by
  simp [State.store]
@[simp] theorem store_c (s : State) (x : Word) (v : Byte) : (s.store x v).c = s.c := by
  simp [State.store]
@[simp] theorem store_d (s : State) (x : Word) (v : Byte) : (s.store x v).d = s.d := by
  simp [State.store]
@[simp] theorem store_e (s : State) (x : Word) (v : Byte) : (s.store x v).e = s.e := by
  simp [State.store]
@[simp] theorem store_h (s : State) (x : Word) (v : Byte) : (s.store x v).h = s.h := by
  simp [State.store]
@[simp] theorem store_l (s : State) (x : Word) (v : Byte) : (s.store x v).l = s.l := by
  simp [State.store]
@[simp] theorem store_sp (s : State) (x : Word) (v : Byte) : (s.store x v).sp = s.sp := by
  simp [State.store]
@[simp] theorem store_pc (s : State) (x : Word) (v : Byte) : (s.store x v).pc = s.pc := by
  simp [State.store]
@[simp] theorem store_ime (s : State) (x : Word) (v : Byte) : (s.store x v).ime = s.ime := by
  simp [State.store]
@[simp] theorem store_mode (s : State) (x : Word) (v : Byte) : (s.store x v).mode = s.mode := by
  simp [State.store]
@[simp] theorem store_eiPending (s : State) (x : Word) (v : Byte) : (s.store x v).eiPending = s.eiPending := by
  simp [State.store]
@[simp] theorem store_stepCycles (s : State) (x : Word) (v : Byte) : (s.store x v).stepCycles = s.stepCycles := by
  simp [State.store]
@[simp] theorem store_totalCycles (s : State) (x : Word) (v : Byte) : (s.store x v).totalCycles = s.totalCycles := by
  simp [State.store]
@[simp] theorem store_cfg (s : State) (x : Word) (v : Byte) : (s.store x v).cfg = s.cfg := by
  simp [State.store]

@[simp] theorem afterRead_a (s : State) (p : Place) : (s.afterRead p).a = s.a := by
  cases p <;> simp [State.afterRead]
@[simp] theorem afterRead_f (s : State) (p : Place) : (s.afterRead p).f = s.f := by
  cases p <;> simp [State.afterRead]
@[simp] theorem afterRead_b (s : State) (p : Place) : (s.afterRead p).b = s.b := by
  cases p <;> simp [State.afterRead]
@[simp] theorem afterRead_c (s : State) (p : Place) : (s.afterRead p).c = s.c := by
  cases p <;> simp [State.afterRead]
@[simp] theorem afterRead_d (s : State) (p : Place) : (s.afterRead p).d = s.d := by
  cases p <;> simp [State.afterRead]
@[simp] theorem afterRead_e (s : State) (p : Place) : (s.afterRead p).e = s.e := by
  cases p <;> simp [State.afterRead]
@[simp] theorem afterRead_h (s : State) (p : Place) : (s.afterRead p).h = s.h := by
  cases p <;> simp [State.afterRead]
@[simp] theorem afterRead_l (s : State) (p : Place) : (s.afterRead p).l = s.l := by
  cases p <;> simp [State.afterRead]
@[simp] theorem afterRead_sp (s : State) (p : Place) : (s.afterRead p).sp = s.sp := by
  cases p <;> simp [State.afterRead]
@[simp] theorem afterRead_pc (s : State) (p : Place) : (s.afterRead p).pc = s.pc := by
  cases p <;> simp [State.afterRead]
@[simp] theorem afterRead_ime (s : State) (p : Place) : (s.afterRead p).ime = s.ime := by
  cases p <;> simp [State.afterRead]
@[simp] theorem afterRead_mode (s : State) (p : Place) : (s.afterRead p).mode = s.mode := by
  cases p <;> simp [State.afterRead]
@[simp] theorem afterRead_eiPending (s : State) (p : Place) : (s.afterRead p).eiPending = s.eiPending := by
  cases p <;> simp [State.afterRead]
@[simp] theorem afterRead_stepCycles (s : State) (p : Place) : (s.afterRead p).stepCycles = s.stepCycles := by
  cases p <;> simp [State.afterRead]
@[simp] theorem afterRead_totalCycles (s : State) (p : Place) : (s.afterRead p).totalCycles = s.totalCycles := by
  cases p <;> simp [State.afterRead]
@[simp] theorem afterRead_cfg (s : State) (p : Place) : (s.afterRead p).cfg = s.cfg := by
  cases p <;> simp [State.afterRead]

/-- Where no act of the environment can land inside an instruction, an access point does nothing. -/
theorem afterAccess_quiet {s : State} (h : s.cfg.envWritePoints = .round ∨ s.env = []) : s.afterAccess = s := by
  rcases h with h | h
  · simp [State.afterAccess, h]
  · unfold State.afterAccess
    split
    · rfl
    · simp [State.landEnv, h]

end Sys2Proof.Machine
end

