-- ==== Sys2Proof/Laws/Ops.lean ====
section
/-! SUPPORT. What each shared operation can do, said once: the memory port, the stack, the arbiter, the dispatch, the EI
commit, the halt wake and the poll; and that every operation over memory keeps the canonical form, which the memory
after reset has. -/

namespace Sys2Proof.Machine

/-! ## The canonical form of memory -/

theorem word_lt (x : Word) : x.toNat < 65536 := x.isLt

theorem memWrite_wf {s : State} (h : s.mem.wf = true) (x : Word) (v : Byte) : (s.memWrite x v).mem.wf = true := by
  unfold State.memWrite
  split
  · split <;> exact h
  · exact Memory.wf_write h (word_lt x)

theorem envWrite_wf {s : State} (h : s.mem.wf = true) (x : Word) (v : Byte) : (s.envWrite x v).mem.wf = true := by
  unfold State.envWrite
  split
  · exact h
  · exact memWrite_wf h x v

theorem applyEnv_wf {s : State} (h : s.mem.wf = true) (act : EnvAct) : (s.applyEnv act).mem.wf = true := by
  cases act with
  | write x v => exact envWrite_wf h x v
  | post k => exact memWrite_wf h ifAddr _

theorem applyEnvs_wf {s : State} (h : s.mem.wf = true) (acts : List EnvAct) : (s.applyEnvs acts).mem.wf = true := by
  induction acts generalizing s with
  | nil => exact h
  | cons act acts ih => exact ih (applyEnv_wf h act)

theorem landEnv_wf {s : State} (h : s.mem.wf = true) : s.landEnv.mem.wf = true := by
  unfold State.landEnv
  split
  · exact h
  · exact applyEnvs_wf (by exact h) _

theorem afterAccess_wf {s : State} (h : s.mem.wf = true) : s.afterAccess.mem.wf = true := by
  unfold State.afterAccess
  split
  · exact h
  · exact landEnv_wf h

theorem store_wf {s : State} (h : s.mem.wf = true) (x : Word) (v : Byte) : (s.store x v).mem.wf = true :=
  afterAccess_wf (memWrite_wf h x v)

theorem read16_wf {s : State} (h : s.mem.wf = true) (x : Word) : (s.read16 x).2.mem.wf = true :=
  afterAccess_wf (afterAccess_wf h)

theorem write16_wf {s : State} (h : s.mem.wf = true) (x v : Word) : (s.write16 x v).mem.wf = true :=
  store_wf (store_wf h _ _) _ _

theorem setSp_wf {s : State} (h : s.mem.wf = true) (v : Word) : (s.setSp v).mem.wf = true := h

theorem push16_wf {s : State} (h : s.mem.wf = true) (v : Word) : (s.push16 v).mem.wf = true :=
  store_wf (setSp_wf (store_wf (setSp_wf h _) _ _) _) _ _

theorem pop16_wf {s : State} (h : s.mem.wf = true) : s.pop16.2.mem.wf = true :=
  afterAccess_wf (setSp_wf (afterAccess_wf h) _)

theorem pushAtomic_wf {s : State} (h : s.mem.wf = true) (v : Word) : (s.pushAtomic v).mem.wf = true :=
  memWrite_wf (setSp_wf (memWrite_wf (setSp_wf h _) _ _) _) _ _

theorem arbiter_wf {s : State} (h : s.mem.wf = true) : s.arbiter.2.mem.wf = true := by
  unfold State.arbiter
  split
  · split
    · exact h
    · exact memWrite_wf h _ _
  · exact h

theorem placeByte_wf {s : State} (h : s.mem.wf = true) (x : Word) (v : Byte) : (s.placeByte x v).mem.wf = true := by
  unfold State.placeByte
  split
  · exact h
  · exact Memory.wf_write h (word_lt x)

/-- LoadCartridge keeps the form for every image it accepts. -/
theorem loadImage_wf {s : State} (h : s.mem.wf = true) {bytes : List Byte} (hb : bytes.length ≤ maxCartridge) :
    (s.loadImage bytes).mem.wf = true :=
  Memory.wf_writeAll h (by unfold maxCartridge at hb; omega)

theorem foldl_write_wf (cells : List (Word × Byte)) {m : Memory} (h : m.wf = true) :
    (cells.foldl (fun m c => Memory.write m c.1.toNat c.2) m).wf = true := by
  induction cells generalizing m with
  | nil => exact h
  | cons c cells ih => exact ih (Memory.wf_write h (word_lt c.1))

theorem initMemory_wf (l : Launch) : l.initMemory.wf = true := foldl_write_wf l.initMem rfl

/-! ## The stack -/

/-- Two states with the same fields are the same. -/
theorem state_eq_of_fields {s t : State}
    (h0 : s.a = t.a) (h1 : s.f = t.f) (h2 : s.b = t.b) (h3 : s.c = t.c) (h4 : s.d = t.d) (h5 : s.e = t.e)
    (h6 : s.h = t.h) (h7 : s.l = t.l) (h8 : s.sp = t.sp) (h9 : s.pc = t.pc) (h10 : s.ime = t.ime)
    (h11 : s.mode = t.mode) (h12 : s.eiPending = t.eiPending) (h13 : s.stepCycles = t.stepCycles)
    (h14 : s.totalCycles = t.totalCycles) (h15 : s.mem = t.mem) (h16 : s.boot = t.boot) (h17 : s.env = t.env)
    (h18 : s.cfg = t.cfg) :
    s = t := by
  cases s
  cases t
  simp_all

theorem sub_one_twice (x : Word) : x - 1#16 - 1#16 = x - 2#16 := by bv_omega

theorem add_one_twice (x : Word) : x + 1#16 + 1#16 = x + 2#16 := by bv_omega

/-- A push moves SP down by two and changes nothing else but the two stores and what is still to land. -/
theorem push16_eq (s : State) (v : Word) :
    ∃ m o q, s.push16 v = { s with sp := s.sp - 2, mem := m, boot := o, env := q } :=
  ⟨(s.push16 v).mem, (s.push16 v).boot, (s.push16 v).env, by
    apply state_eq_of_fields <;> simp [State.push16, sub_one_twice]⟩

/-- A pop moves SP up by two and changes nothing else but what lands of the environment. -/
theorem pop16_eq (s : State) :
    ∃ m o q, s.pop16.2 = { s with sp := s.sp + 2, mem := m, boot := o, env := q } :=
  ⟨s.pop16.2.mem, s.pop16.2.boot, s.pop16.2.env, by
    apply state_eq_of_fields <;> simp [State.pop16, add_one_twice]⟩

/-- The push of a dispatch moves SP down by two and changes nothing else but the two stores. -/
theorem pushAtomic_eq (s : State) (v : Word) :
    ∃ m o, s.pushAtomic v = { s with sp := s.sp - 2, mem := m, boot := o } :=
  ⟨(s.pushAtomic v).mem, (s.pushAtomic v).boot, by
    apply state_eq_of_fields <;> simp [State.pushAtomic, sub_one_twice]⟩

/-- A two-byte write changes nothing but the two stores and what is still to land. -/
theorem write16_eq (s : State) (x v : Word) :
    ∃ m o q, s.write16 x v = { s with mem := m, boot := o, env := q } :=
  ⟨(s.write16 x v).mem, (s.write16 x v).boot, (s.write16 x v).env, by
    apply state_eq_of_fields <;> simp [State.write16]⟩

/-! ## The rest of a round -/

/-- The EI commit changes IME and the pending EI alone, and it only ever sets IME. -/
theorem eiCommit_cases (s : State) :
    s.eiCommit = s ∨
    (s.cfg.eiDelay = .one ∧ s.eiPending = .ready ∧ s.eiCommit = { s with ime := true, eiPending := .none }) ∨
    (s.cfg.eiDelay = .one ∧ s.eiPending = .armed ∧ s.eiCommit = { s with eiPending := .ready }) := by
  unfold State.eiCommit
  cases hd : s.cfg.eiDelay <;> cases hp : s.eiPending <;> simp_all

/-- The arbiter answers nothing and changes nothing, or serves one source with IME set. -/
theorem arbiter_cases (s : State) :
    s.arbiter = (none, s) ∨
    ∃ k, s.ime = true ∧ lowestSource s.pendingEnabled = some k ∧
      s.arbiter = (some k.vector, { s.memWrite ifAddr (s.memRead ifAddr &&& ~~~k.mask) with ime := false }) := by
  unfold State.arbiter
  cases hi : s.ime with
  | false => exact .inl (by simp)
  | true =>
    cases hk : lowestSource s.pendingEnabled with
    | none => exact .inl (by simp)
    | some k => exact .inr ⟨k, by simp⟩

/-- A dispatch moves SP, PC and the counters, activates the core, and stores two bytes. -/
theorem dispatch_eq (s : State) (v : Word) :
    ∃ m o, s.dispatch v =
      { s with
        sp := s.sp - 2
        pc := v
        mode := .active
        mem := m
        boot := o
        stepCycles := s.stepCycles + s.cfg.intDispatchCycles
        totalCycles := s.totalCycles + s.cfg.intDispatchCycles } := by
  obtain ⟨m, o, h⟩ := pushAtomic_eq s s.pc
  exact ⟨m, o, by simp [State.dispatch, h, State.setPc, State.moreCycles]⟩

/-- The halt wake changes the run state alone. -/
theorem haltWake_cases (s : State) :
    s.haltWake = s ∨
    (s.pendingEnabled ≠ 0x00 ∧ s.cfg.haltWakeIme0 = .wake ∧ s.haltWake = { s with mode := .active }) ∨
    (s.cfg.exitOnIdleHalt = true ∧ s.wakeImpossible = true ∧ s.haltWake = { s with mode := .exited }) := by
  unfold State.haltWake
  split
  · rename_i h
    exact .inr (.inl ⟨h.1, h.2, rfl⟩)
  · split
    · rename_i h
      exact .inr (.inr ⟨h.1, h.2, rfl⟩)
    · exact .inl rfl

/-- The rest of a round ends in the arbiter's vector being dispatched, in a halt wake, or in the EI commit alone. -/
theorem poll_cases (s : State) :
    (∃ k, s.eiCommit.ime = true ∧ lowestSource s.eiCommit.pendingEnabled = some k ∧
      s.poll = State.dispatch
        { s.eiCommit.memWrite ifAddr (s.eiCommit.memRead ifAddr &&& ~~~k.mask) with ime := false } k.vector) ∨
    (s.eiCommit.mode = .halted ∧ s.poll = s.eiCommit.haltWake) ∨
    (s.eiCommit.mode ≠ .halted ∧ s.poll = s.eiCommit) := by
  unfold State.poll
  rcases arbiter_cases s.eiCommit with h | ⟨k, hi, hk, h⟩
  · rw [h]
    by_cases hm : s.eiCommit.mode = .halted
    · exact .inr (.inl ⟨hm, by simp [hm]⟩)
    · exact .inr (.inr ⟨hm, by simp [hm]⟩)
  · exact .inl ⟨k, hi, hk, by rw [h]⟩

end Sys2Proof.Machine
end

