-- ==== Sys2Proof/Laws/PerInstr.lean ====
section
/-! SUPPORT. Claims made instruction by instruction, one lemma a constructor. Family `LengthByFirstByte`: the encoding of
a well-formed instruction begins with a byte whose row of the primary table asks for exactly as many bytes as the
encoding has (R80, R94). -/

namespace Sys2Proof.Laws

/-- The encoding is as long as the row its first byte selects. -/
def LengthByFirstByte.Statement (i : Instr) : Prop :=
  i.wellFormed = true → ∀ sl : Config.StopLength,
    ∃ op rest, encode sl i = op :: rest ∧ (primaryRow op).length sl = rest.length + 1

/-- An unrecognized opcode is a row of one byte (R93). -/
theorem length_of_unrecognized {op : Byte} (h : WellFormed.isUnrecognized op = true) (sl : Config.StopLength) :
    (primaryRow op).length sl = 1 := by
  have hm : op ∈ illegalOpcodes := by simpa [WellFormed.isUnrecognized] using h
  simp only [illegalOpcodes, List.mem_cons, List.not_mem_nil, or_false] at hm
  rcases hm with rfl | rfl | rfl | rfl | rfl | rfl | rfl | rfl | rfl | rfl | rfl <;> rfl

theorem LengthByFirstByte.nop : LengthByFirstByte.Statement .nop := fun _ _ => ⟨_, _, rfl, rfl⟩
theorem LengthByFirstByte.ldBcNn (nn : Word) : LengthByFirstByte.Statement (.ldBcNn nn) := fun _ _ => ⟨_, _, rfl, rfl⟩
theorem LengthByFirstByte.ldAtBcA : LengthByFirstByte.Statement .ldAtBcA := fun _ _ => ⟨_, _, rfl, rfl⟩
theorem LengthByFirstByte.incBc : LengthByFirstByte.Statement .incBc := fun _ _ => ⟨_, _, rfl, rfl⟩
theorem LengthByFirstByte.incB : LengthByFirstByte.Statement .incB := fun _ _ => ⟨_, _, rfl, rfl⟩
theorem LengthByFirstByte.decB : LengthByFirstByte.Statement .decB := fun _ _ => ⟨_, _, rfl, rfl⟩
theorem LengthByFirstByte.ldBN (n : Byte) : LengthByFirstByte.Statement (.ldBN n) := fun _ _ => ⟨_, _, rfl, rfl⟩
theorem LengthByFirstByte.rlca : LengthByFirstByte.Statement .rlca := fun _ _ => ⟨_, _, rfl, rfl⟩
theorem LengthByFirstByte.ldAtNnSp (nn : Word) : LengthByFirstByte.Statement (.ldAtNnSp nn) := fun _ _ => ⟨_, _, rfl, rfl⟩
theorem LengthByFirstByte.addHlBc : LengthByFirstByte.Statement .addHlBc := fun _ _ => ⟨_, _, rfl, rfl⟩
theorem LengthByFirstByte.ldAAtBc : LengthByFirstByte.Statement .ldAAtBc := fun _ _ => ⟨_, _, rfl, rfl⟩
theorem LengthByFirstByte.decBc : LengthByFirstByte.Statement .decBc := fun _ _ => ⟨_, _, rfl, rfl⟩
theorem LengthByFirstByte.incC : LengthByFirstByte.Statement .incC := fun _ _ => ⟨_, _, rfl, rfl⟩
theorem LengthByFirstByte.decC : LengthByFirstByte.Statement .decC := fun _ _ => ⟨_, _, rfl, rfl⟩
theorem LengthByFirstByte.ldCN (n : Byte) : LengthByFirstByte.Statement (.ldCN n) := fun _ _ => ⟨_, _, rfl, rfl⟩
theorem LengthByFirstByte.rrca : LengthByFirstByte.Statement .rrca := fun _ _ => ⟨_, _, rfl, rfl⟩
theorem LengthByFirstByte.stop : LengthByFirstByte.Statement .stop :=
  fun _ sl => by cases sl <;> exact ⟨_, _, rfl, rfl⟩
theorem LengthByFirstByte.ldDeNn (nn : Word) : LengthByFirstByte.Statement (.ldDeNn nn) := fun _ _ => ⟨_, _, rfl, rfl⟩
theorem LengthByFirstByte.ldAtDeA : LengthByFirstByte.Statement .ldAtDeA := fun _ _ => ⟨_, _, rfl, rfl⟩
theorem LengthByFirstByte.incDe : LengthByFirstByte.Statement .incDe := fun _ _ => ⟨_, _, rfl, rfl⟩
theorem LengthByFirstByte.incD : LengthByFirstByte.Statement .incD := fun _ _ => ⟨_, _, rfl, rfl⟩
theorem LengthByFirstByte.decD : LengthByFirstByte.Statement .decD := fun _ _ => ⟨_, _, rfl, rfl⟩
theorem LengthByFirstByte.ldDN (n : Byte) : LengthByFirstByte.Statement (.ldDN n) := fun _ _ => ⟨_, _, rfl, rfl⟩
theorem LengthByFirstByte.rla : LengthByFirstByte.Statement .rla := fun _ _ => ⟨_, _, rfl, rfl⟩
theorem LengthByFirstByte.jrRel (e : Byte) : LengthByFirstByte.Statement (.jrRel e) := fun _ _ => ⟨_, _, rfl, rfl⟩
theorem LengthByFirstByte.addHlDe : LengthByFirstByte.Statement .addHlDe := fun _ _ => ⟨_, _, rfl, rfl⟩
theorem LengthByFirstByte.ldAAtDe : LengthByFirstByte.Statement .ldAAtDe := fun _ _ => ⟨_, _, rfl, rfl⟩
theorem LengthByFirstByte.decDe : LengthByFirstByte.Statement .decDe := fun _ _ => ⟨_, _, rfl, rfl⟩
theorem LengthByFirstByte.incE : LengthByFirstByte.Statement .incE := fun _ _ => ⟨_, _, rfl, rfl⟩
theorem LengthByFirstByte.decE : LengthByFirstByte.Statement .decE := fun _ _ => ⟨_, _, rfl, rfl⟩
theorem LengthByFirstByte.ldEN (n : Byte) : LengthByFirstByte.Statement (.ldEN n) := fun _ _ => ⟨_, _, rfl, rfl⟩
theorem LengthByFirstByte.rra : LengthByFirstByte.Statement .rra := fun _ _ => ⟨_, _, rfl, rfl⟩
theorem LengthByFirstByte.jrNzRel (e : Byte) : LengthByFirstByte.Statement (.jrNzRel e) := fun _ _ => ⟨_, _, rfl, rfl⟩
theorem LengthByFirstByte.ldHlNn (nn : Word) : LengthByFirstByte.Statement (.ldHlNn nn) := fun _ _ => ⟨_, _, rfl, rfl⟩
theorem LengthByFirstByte.ldAtHlIncA : LengthByFirstByte.Statement .ldAtHlIncA := fun _ _ => ⟨_, _, rfl, rfl⟩
theorem LengthByFirstByte.incHl : LengthByFirstByte.Statement .incHl := fun _ _ => ⟨_, _, rfl, rfl⟩
theorem LengthByFirstByte.incH : LengthByFirstByte.Statement .incH := fun _ _ => ⟨_, _, rfl, rfl⟩
theorem LengthByFirstByte.decH : LengthByFirstByte.Statement .decH := fun _ _ => ⟨_, _, rfl, rfl⟩
theorem LengthByFirstByte.ldHN (n : Byte) : LengthByFirstByte.Statement (.ldHN n) := fun _ _ => ⟨_, _, rfl, rfl⟩
theorem LengthByFirstByte.daa : LengthByFirstByte.Statement .daa := fun _ _ => ⟨_, _, rfl, rfl⟩
theorem LengthByFirstByte.jrZRel (e : Byte) : LengthByFirstByte.Statement (.jrZRel e) := fun _ _ => ⟨_, _, rfl, rfl⟩
theorem LengthByFirstByte.addHlHl : LengthByFirstByte.Statement .addHlHl := fun _ _ => ⟨_, _, rfl, rfl⟩
theorem LengthByFirstByte.ldAAtHlInc : LengthByFirstByte.Statement .ldAAtHlInc := fun _ _ => ⟨_, _, rfl, rfl⟩
theorem LengthByFirstByte.decHl : LengthByFirstByte.Statement .decHl := fun _ _ => ⟨_, _, rfl, rfl⟩
theorem LengthByFirstByte.incL : LengthByFirstByte.Statement .incL := fun _ _ => ⟨_, _, rfl, rfl⟩
theorem LengthByFirstByte.decL : LengthByFirstByte.Statement .decL := fun _ _ => ⟨_, _, rfl, rfl⟩
theorem LengthByFirstByte.ldLN (n : Byte) : LengthByFirstByte.Statement (.ldLN n) := fun _ _ => ⟨_, _, rfl, rfl⟩
theorem LengthByFirstByte.cpl : LengthByFirstByte.Statement .cpl := fun _ _ => ⟨_, _, rfl, rfl⟩
theorem LengthByFirstByte.jrNcRel (e : Byte) : LengthByFirstByte.Statement (.jrNcRel e) := fun _ _ => ⟨_, _, rfl, rfl⟩
theorem LengthByFirstByte.ldSpNn (nn : Word) : LengthByFirstByte.Statement (.ldSpNn nn) := fun _ _ => ⟨_, _, rfl, rfl⟩
theorem LengthByFirstByte.ldAtHlDecA : LengthByFirstByte.Statement .ldAtHlDecA := fun _ _ => ⟨_, _, rfl, rfl⟩
theorem LengthByFirstByte.incSp : LengthByFirstByte.Statement .incSp := fun _ _ => ⟨_, _, rfl, rfl⟩
theorem LengthByFirstByte.incAtHl : LengthByFirstByte.Statement .incAtHl := fun _ _ => ⟨_, _, rfl, rfl⟩
theorem LengthByFirstByte.decAtHl : LengthByFirstByte.Statement .decAtHl := fun _ _ => ⟨_, _, rfl, rfl⟩
theorem LengthByFirstByte.ldAtHlN (n : Byte) : LengthByFirstByte.Statement (.ldAtHlN n) := fun _ _ => ⟨_, _, rfl, rfl⟩
theorem LengthByFirstByte.scf : LengthByFirstByte.Statement .scf := fun _ _ => ⟨_, _, rfl, rfl⟩
theorem LengthByFirstByte.jrCRel (e : Byte) : LengthByFirstByte.Statement (.jrCRel e) := fun _ _ => ⟨_, _, rfl, rfl⟩
theorem LengthByFirstByte.addHlSp : LengthByFirstByte.Statement .addHlSp := fun _ _ => ⟨_, _, rfl, rfl⟩
theorem LengthByFirstByte.ldAAtHlDec : LengthByFirstByte.Statement .ldAAtHlDec := fun _ _ => ⟨_, _, rfl, rfl⟩
theorem LengthByFirstByte.decSp : LengthByFirstByte.Statement .decSp := fun _ _ => ⟨_, _, rfl, rfl⟩
theorem LengthByFirstByte.incA : LengthByFirstByte.Statement .incA := fun _ _ => ⟨_, _, rfl, rfl⟩
theorem LengthByFirstByte.decA : LengthByFirstByte.Statement .decA := fun _ _ => ⟨_, _, rfl, rfl⟩
theorem LengthByFirstByte.ldAN (n : Byte) : LengthByFirstByte.Statement (.ldAN n) := fun _ _ => ⟨_, _, rfl, rfl⟩
theorem LengthByFirstByte.ccf : LengthByFirstByte.Statement .ccf := fun _ _ => ⟨_, _, rfl, rfl⟩
theorem LengthByFirstByte.ldBB : LengthByFirstByte.Statement .ldBB := fun _ _ => ⟨_, _, rfl, rfl⟩
theorem LengthByFirstByte.ldBC : LengthByFirstByte.Statement .ldBC := fun _ _ => ⟨_, _, rfl, rfl⟩
theorem LengthByFirstByte.ldBD : LengthByFirstByte.Statement .ldBD := fun _ _ => ⟨_, _, rfl, rfl⟩
theorem LengthByFirstByte.ldBE : LengthByFirstByte.Statement .ldBE := fun _ _ => ⟨_, _, rfl, rfl⟩
theorem LengthByFirstByte.ldBH : LengthByFirstByte.Statement .ldBH := fun _ _ => ⟨_, _, rfl, rfl⟩
theorem LengthByFirstByte.ldBL : LengthByFirstByte.Statement .ldBL := fun _ _ => ⟨_, _, rfl, rfl⟩
theorem LengthByFirstByte.ldBAtHl : LengthByFirstByte.Statement .ldBAtHl := fun _ _ => ⟨_, _, rfl, rfl⟩
theorem LengthByFirstByte.ldBA : LengthByFirstByte.Statement .ldBA := fun _ _ => ⟨_, _, rfl, rfl⟩
theorem LengthByFirstByte.ldCB : LengthByFirstByte.Statement .ldCB := fun _ _ => ⟨_, _, rfl, rfl⟩
theorem LengthByFirstByte.ldCC : LengthByFirstByte.Statement .ldCC := fun _ _ => ⟨_, _, rfl, rfl⟩
theorem LengthByFirstByte.ldCD : LengthByFirstByte.Statement .ldCD := fun _ _ => ⟨_, _, rfl, rfl⟩
theorem LengthByFirstByte.ldCE : LengthByFirstByte.Statement .ldCE := fun _ _ => ⟨_, _, rfl, rfl⟩
theorem LengthByFirstByte.ldCH : LengthByFirstByte.Statement .ldCH := fun _ _ => ⟨_, _, rfl, rfl⟩
theorem LengthByFirstByte.ldCL : LengthByFirstByte.Statement .ldCL := fun _ _ => ⟨_, _, rfl, rfl⟩
theorem LengthByFirstByte.ldCAtHl : LengthByFirstByte.Statement .ldCAtHl := fun _ _ => ⟨_, _, rfl, rfl⟩
theorem LengthByFirstByte.ldCA : LengthByFirstByte.Statement .ldCA := fun _ _ => ⟨_, _, rfl, rfl⟩
theorem LengthByFirstByte.ldDB : LengthByFirstByte.Statement .ldDB := fun _ _ => ⟨_, _, rfl, rfl⟩
theorem LengthByFirstByte.ldDC : LengthByFirstByte.Statement .ldDC := fun _ _ => ⟨_, _, rfl, rfl⟩
theorem LengthByFirstByte.ldDD : LengthByFirstByte.Statement .ldDD := fun _ _ => ⟨_, _, rfl, rfl⟩
theorem LengthByFirstByte.ldDE : LengthByFirstByte.Statement .ldDE := fun _ _ => ⟨_, _, rfl, rfl⟩
theorem LengthByFirstByte.ldDH : LengthByFirstByte.Statement .ldDH := fun _ _ => ⟨_, _, rfl, rfl⟩
theorem LengthByFirstByte.ldDL : LengthByFirstByte.Statement .ldDL := fun _ _ => ⟨_, _, rfl, rfl⟩
theorem LengthByFirstByte.ldDAtHl : LengthByFirstByte.Statement .ldDAtHl := fun _ _ => ⟨_, _, rfl, rfl⟩
theorem LengthByFirstByte.ldDA : LengthByFirstByte.Statement .ldDA := fun _ _ => ⟨_, _, rfl, rfl⟩
theorem LengthByFirstByte.ldEB : LengthByFirstByte.Statement .ldEB := fun _ _ => ⟨_, _, rfl, rfl⟩
theorem LengthByFirstByte.ldEC : LengthByFirstByte.Statement .ldEC := fun _ _ => ⟨_, _, rfl, rfl⟩
theorem LengthByFirstByte.ldED : LengthByFirstByte.Statement .ldED := fun _ _ => ⟨_, _, rfl, rfl⟩
theorem LengthByFirstByte.ldEE : LengthByFirstByte.Statement .ldEE := fun _ _ => ⟨_, _, rfl, rfl⟩
theorem LengthByFirstByte.ldEH : LengthByFirstByte.Statement .ldEH := fun _ _ => ⟨_, _, rfl, rfl⟩
theorem LengthByFirstByte.ldEL : LengthByFirstByte.Statement .ldEL := fun _ _ => ⟨_, _, rfl, rfl⟩
theorem LengthByFirstByte.ldEAtHl : LengthByFirstByte.Statement .ldEAtHl := fun _ _ => ⟨_, _, rfl, rfl⟩
theorem LengthByFirstByte.ldEA : LengthByFirstByte.Statement .ldEA := fun _ _ => ⟨_, _, rfl, rfl⟩
theorem LengthByFirstByte.ldHB : LengthByFirstByte.Statement .ldHB := fun _ _ => ⟨_, _, rfl, rfl⟩
theorem LengthByFirstByte.ldHC : LengthByFirstByte.Statement .ldHC := fun _ _ => ⟨_, _, rfl, rfl⟩
theorem LengthByFirstByte.ldHD : LengthByFirstByte.Statement .ldHD := fun _ _ => ⟨_, _, rfl, rfl⟩
theorem LengthByFirstByte.ldHE : LengthByFirstByte.Statement .ldHE := fun _ _ => ⟨_, _, rfl, rfl⟩
theorem LengthByFirstByte.ldHH : LengthByFirstByte.Statement .ldHH := fun _ _ => ⟨_, _, rfl, rfl⟩
theorem LengthByFirstByte.ldHL : LengthByFirstByte.Statement .ldHL := fun _ _ => ⟨_, _, rfl, rfl⟩
theorem LengthByFirstByte.ldHAtHl : LengthByFirstByte.Statement .ldHAtHl := fun _ _ => ⟨_, _, rfl, rfl⟩
theorem LengthByFirstByte.ldHA : LengthByFirstByte.Statement .ldHA := fun _ _ => ⟨_, _, rfl, rfl⟩
theorem LengthByFirstByte.ldLB : LengthByFirstByte.Statement .ldLB := fun _ _ => ⟨_, _, rfl, rfl⟩
theorem LengthByFirstByte.ldLC : LengthByFirstByte.Statement .ldLC := fun _ _ => ⟨_, _, rfl, rfl⟩
theorem LengthByFirstByte.ldLD : LengthByFirstByte.Statement .ldLD := fun _ _ => ⟨_, _, rfl, rfl⟩
theorem LengthByFirstByte.ldLE : LengthByFirstByte.Statement .ldLE := fun _ _ => ⟨_, _, rfl, rfl⟩
theorem LengthByFirstByte.ldLH : LengthByFirstByte.Statement .ldLH := fun _ _ => ⟨_, _, rfl, rfl⟩
theorem LengthByFirstByte.ldLL : LengthByFirstByte.Statement .ldLL := fun _ _ => ⟨_, _, rfl, rfl⟩
theorem LengthByFirstByte.ldLAtHl : LengthByFirstByte.Statement .ldLAtHl := fun _ _ => ⟨_, _, rfl, rfl⟩
theorem LengthByFirstByte.ldLA : LengthByFirstByte.Statement .ldLA := fun _ _ => ⟨_, _, rfl, rfl⟩
theorem LengthByFirstByte.ldAtHlB : LengthByFirstByte.Statement .ldAtHlB := fun _ _ => ⟨_, _, rfl, rfl⟩
theorem LengthByFirstByte.ldAtHlC : LengthByFirstByte.Statement .ldAtHlC := fun _ _ => ⟨_, _, rfl, rfl⟩
theorem LengthByFirstByte.ldAtHlD : LengthByFirstByte.Statement .ldAtHlD := fun _ _ => ⟨_, _, rfl, rfl⟩
theorem LengthByFirstByte.ldAtHlE : LengthByFirstByte.Statement .ldAtHlE := fun _ _ => ⟨_, _, rfl, rfl⟩
theorem LengthByFirstByte.ldAtHlH : LengthByFirstByte.Statement .ldAtHlH := fun _ _ => ⟨_, _, rfl, rfl⟩
theorem LengthByFirstByte.ldAtHlL : LengthByFirstByte.Statement .ldAtHlL := fun _ _ => ⟨_, _, rfl, rfl⟩
theorem LengthByFirstByte.halt : LengthByFirstByte.Statement .halt := fun _ _ => ⟨_, _, rfl, rfl⟩
theorem LengthByFirstByte.ldAtHlA : LengthByFirstByte.Statement .ldAtHlA := fun _ _ => ⟨_, _, rfl, rfl⟩
theorem LengthByFirstByte.ldAB : LengthByFirstByte.Statement .ldAB := fun _ _ => ⟨_, _, rfl, rfl⟩
theorem LengthByFirstByte.ldAC : LengthByFirstByte.Statement .ldAC := fun _ _ => ⟨_, _, rfl, rfl⟩
theorem LengthByFirstByte.ldAD : LengthByFirstByte.Statement .ldAD := fun _ _ => ⟨_, _, rfl, rfl⟩
theorem LengthByFirstByte.ldAE : LengthByFirstByte.Statement .ldAE := fun _ _ => ⟨_, _, rfl, rfl⟩
theorem LengthByFirstByte.ldAH : LengthByFirstByte.Statement .ldAH := fun _ _ => ⟨_, _, rfl, rfl⟩
theorem LengthByFirstByte.ldAL : LengthByFirstByte.Statement .ldAL := fun _ _ => ⟨_, _, rfl, rfl⟩
theorem LengthByFirstByte.ldAAtHl : LengthByFirstByte.Statement .ldAAtHl := fun _ _ => ⟨_, _, rfl, rfl⟩
theorem LengthByFirstByte.ldAA : LengthByFirstByte.Statement .ldAA := fun _ _ => ⟨_, _, rfl, rfl⟩
theorem LengthByFirstByte.addAB : LengthByFirstByte.Statement .addAB := fun _ _ => ⟨_, _, rfl, rfl⟩
theorem LengthByFirstByte.addAC : LengthByFirstByte.Statement .addAC := fun _ _ => ⟨_, _, rfl, rfl⟩
theorem LengthByFirstByte.addAD : LengthByFirstByte.Statement .addAD := fun _ _ => ⟨_, _, rfl, rfl⟩
theorem LengthByFirstByte.addAE : LengthByFirstByte.Statement .addAE := fun _ _ => ⟨_, _, rfl, rfl⟩
theorem LengthByFirstByte.addAH : LengthByFirstByte.Statement .addAH := fun _ _ => ⟨_, _, rfl, rfl⟩
theorem LengthByFirstByte.addAL : LengthByFirstByte.Statement .addAL := fun _ _ => ⟨_, _, rfl, rfl⟩
theorem LengthByFirstByte.addAAtHl : LengthByFirstByte.Statement .addAAtHl := fun _ _ => ⟨_, _, rfl, rfl⟩
theorem LengthByFirstByte.addAA : LengthByFirstByte.Statement .addAA := fun _ _ => ⟨_, _, rfl, rfl⟩
theorem LengthByFirstByte.adcAB : LengthByFirstByte.Statement .adcAB := fun _ _ => ⟨_, _, rfl, rfl⟩
theorem LengthByFirstByte.adcAC : LengthByFirstByte.Statement .adcAC := fun _ _ => ⟨_, _, rfl, rfl⟩
theorem LengthByFirstByte.adcAD : LengthByFirstByte.Statement .adcAD := fun _ _ => ⟨_, _, rfl, rfl⟩
theorem LengthByFirstByte.adcAE : LengthByFirstByte.Statement .adcAE := fun _ _ => ⟨_, _, rfl, rfl⟩
theorem LengthByFirstByte.adcAH : LengthByFirstByte.Statement .adcAH := fun _ _ => ⟨_, _, rfl, rfl⟩
theorem LengthByFirstByte.adcAL : LengthByFirstByte.Statement .adcAL := fun _ _ => ⟨_, _, rfl, rfl⟩
theorem LengthByFirstByte.adcAAtHl : LengthByFirstByte.Statement .adcAAtHl := fun _ _ => ⟨_, _, rfl, rfl⟩
theorem LengthByFirstByte.adcAA : LengthByFirstByte.Statement .adcAA := fun _ _ => ⟨_, _, rfl, rfl⟩
theorem LengthByFirstByte.subB : LengthByFirstByte.Statement .subB := fun _ _ => ⟨_, _, rfl, rfl⟩
theorem LengthByFirstByte.subC : LengthByFirstByte.Statement .subC := fun _ _ => ⟨_, _, rfl, rfl⟩
theorem LengthByFirstByte.subD : LengthByFirstByte.Statement .subD := fun _ _ => ⟨_, _, rfl, rfl⟩
theorem LengthByFirstByte.subE : LengthByFirstByte.Statement .subE := fun _ _ => ⟨_, _, rfl, rfl⟩
theorem LengthByFirstByte.subH : LengthByFirstByte.Statement .subH := fun _ _ => ⟨_, _, rfl, rfl⟩
theorem LengthByFirstByte.subL : LengthByFirstByte.Statement .subL := fun _ _ => ⟨_, _, rfl, rfl⟩
theorem LengthByFirstByte.subAtHl : LengthByFirstByte.Statement .subAtHl := fun _ _ => ⟨_, _, rfl, rfl⟩
theorem LengthByFirstByte.subA : LengthByFirstByte.Statement .subA := fun _ _ => ⟨_, _, rfl, rfl⟩
theorem LengthByFirstByte.sbcAB : LengthByFirstByte.Statement .sbcAB := fun _ _ => ⟨_, _, rfl, rfl⟩
theorem LengthByFirstByte.sbcAC : LengthByFirstByte.Statement .sbcAC := fun _ _ => ⟨_, _, rfl, rfl⟩
theorem LengthByFirstByte.sbcAD : LengthByFirstByte.Statement .sbcAD := fun _ _ => ⟨_, _, rfl, rfl⟩
theorem LengthByFirstByte.sbcAE : LengthByFirstByte.Statement .sbcAE := fun _ _ => ⟨_, _, rfl, rfl⟩
theorem LengthByFirstByte.sbcAH : LengthByFirstByte.Statement .sbcAH := fun _ _ => ⟨_, _, rfl, rfl⟩
theorem LengthByFirstByte.sbcAL : LengthByFirstByte.Statement .sbcAL := fun _ _ => ⟨_, _, rfl, rfl⟩
theorem LengthByFirstByte.sbcAAtHl : LengthByFirstByte.Statement .sbcAAtHl := fun _ _ => ⟨_, _, rfl, rfl⟩
theorem LengthByFirstByte.sbcAA : LengthByFirstByte.Statement .sbcAA := fun _ _ => ⟨_, _, rfl, rfl⟩
theorem LengthByFirstByte.andB : LengthByFirstByte.Statement .andB := fun _ _ => ⟨_, _, rfl, rfl⟩
theorem LengthByFirstByte.andC : LengthByFirstByte.Statement .andC := fun _ _ => ⟨_, _, rfl, rfl⟩
theorem LengthByFirstByte.andD : LengthByFirstByte.Statement .andD := fun _ _ => ⟨_, _, rfl, rfl⟩
theorem LengthByFirstByte.andE : LengthByFirstByte.Statement .andE := fun _ _ => ⟨_, _, rfl, rfl⟩
theorem LengthByFirstByte.andH : LengthByFirstByte.Statement .andH := fun _ _ => ⟨_, _, rfl, rfl⟩
theorem LengthByFirstByte.andL : LengthByFirstByte.Statement .andL := fun _ _ => ⟨_, _, rfl, rfl⟩
theorem LengthByFirstByte.andAtHl : LengthByFirstByte.Statement .andAtHl := fun _ _ => ⟨_, _, rfl, rfl⟩
theorem LengthByFirstByte.andA : LengthByFirstByte.Statement .andA := fun _ _ => ⟨_, _, rfl, rfl⟩
theorem LengthByFirstByte.xorB : LengthByFirstByte.Statement .xorB := fun _ _ => ⟨_, _, rfl, rfl⟩
theorem LengthByFirstByte.xorC : LengthByFirstByte.Statement .xorC := fun _ _ => ⟨_, _, rfl, rfl⟩
theorem LengthByFirstByte.xorD : LengthByFirstByte.Statement .xorD := fun _ _ => ⟨_, _, rfl, rfl⟩
theorem LengthByFirstByte.xorE : LengthByFirstByte.Statement .xorE := fun _ _ => ⟨_, _, rfl, rfl⟩
theorem LengthByFirstByte.xorH : LengthByFirstByte.Statement .xorH := fun _ _ => ⟨_, _, rfl, rfl⟩
theorem LengthByFirstByte.xorL : LengthByFirstByte.Statement .xorL := fun _ _ => ⟨_, _, rfl, rfl⟩
theorem LengthByFirstByte.xorAtHl : LengthByFirstByte.Statement .xorAtHl := fun _ _ => ⟨_, _, rfl, rfl⟩
theorem LengthByFirstByte.xorA : LengthByFirstByte.Statement .xorA := fun _ _ => ⟨_, _, rfl, rfl⟩
theorem LengthByFirstByte.orB : LengthByFirstByte.Statement .orB := fun _ _ => ⟨_, _, rfl, rfl⟩
theorem LengthByFirstByte.orC : LengthByFirstByte.Statement .orC := fun _ _ => ⟨_, _, rfl, rfl⟩
theorem LengthByFirstByte.orD : LengthByFirstByte.Statement .orD := fun _ _ => ⟨_, _, rfl, rfl⟩
theorem LengthByFirstByte.orE : LengthByFirstByte.Statement .orE := fun _ _ => ⟨_, _, rfl, rfl⟩
theorem LengthByFirstByte.orH : LengthByFirstByte.Statement .orH := fun _ _ => ⟨_, _, rfl, rfl⟩
theorem LengthByFirstByte.orL : LengthByFirstByte.Statement .orL := fun _ _ => ⟨_, _, rfl, rfl⟩
theorem LengthByFirstByte.orAtHl : LengthByFirstByte.Statement .orAtHl := fun _ _ => ⟨_, _, rfl, rfl⟩
theorem LengthByFirstByte.orA : LengthByFirstByte.Statement .orA := fun _ _ => ⟨_, _, rfl, rfl⟩
theorem LengthByFirstByte.cpB : LengthByFirstByte.Statement .cpB := fun _ _ => ⟨_, _, rfl, rfl⟩
theorem LengthByFirstByte.cpC : LengthByFirstByte.Statement .cpC := fun _ _ => ⟨_, _, rfl, rfl⟩
theorem LengthByFirstByte.cpD : LengthByFirstByte.Statement .cpD := fun _ _ => ⟨_, _, rfl, rfl⟩
theorem LengthByFirstByte.cpE : LengthByFirstByte.Statement .cpE := fun _ _ => ⟨_, _, rfl, rfl⟩
theorem LengthByFirstByte.cpH : LengthByFirstByte.Statement .cpH := fun _ _ => ⟨_, _, rfl, rfl⟩
theorem LengthByFirstByte.cpL : LengthByFirstByte.Statement .cpL := fun _ _ => ⟨_, _, rfl, rfl⟩
theorem LengthByFirstByte.cpAtHl : LengthByFirstByte.Statement .cpAtHl := fun _ _ => ⟨_, _, rfl, rfl⟩
theorem LengthByFirstByte.cpA : LengthByFirstByte.Statement .cpA := fun _ _ => ⟨_, _, rfl, rfl⟩
theorem LengthByFirstByte.retNz : LengthByFirstByte.Statement .retNz := fun _ _ => ⟨_, _, rfl, rfl⟩
theorem LengthByFirstByte.popBc : LengthByFirstByte.Statement .popBc := fun _ _ => ⟨_, _, rfl, rfl⟩
theorem LengthByFirstByte.jpNzNn (nn : Word) : LengthByFirstByte.Statement (.jpNzNn nn) := fun _ _ => ⟨_, _, rfl, rfl⟩
theorem LengthByFirstByte.jpNn (nn : Word) : LengthByFirstByte.Statement (.jpNn nn) := fun _ _ => ⟨_, _, rfl, rfl⟩
theorem LengthByFirstByte.callNzNn (nn : Word) : LengthByFirstByte.Statement (.callNzNn nn) := fun _ _ => ⟨_, _, rfl, rfl⟩
theorem LengthByFirstByte.pushBc : LengthByFirstByte.Statement .pushBc := fun _ _ => ⟨_, _, rfl, rfl⟩
theorem LengthByFirstByte.addAN (n : Byte) : LengthByFirstByte.Statement (.addAN n) := fun _ _ => ⟨_, _, rfl, rfl⟩
theorem LengthByFirstByte.rst00h : LengthByFirstByte.Statement .rst00h := fun _ _ => ⟨_, _, rfl, rfl⟩
theorem LengthByFirstByte.retZ : LengthByFirstByte.Statement .retZ := fun _ _ => ⟨_, _, rfl, rfl⟩
theorem LengthByFirstByte.ret : LengthByFirstByte.Statement .ret := fun _ _ => ⟨_, _, rfl, rfl⟩
theorem LengthByFirstByte.jpZNn (nn : Word) : LengthByFirstByte.Statement (.jpZNn nn) := fun _ _ => ⟨_, _, rfl, rfl⟩
theorem LengthByFirstByte.prefixCb (op2 : Byte) : LengthByFirstByte.Statement (.prefixCb op2) :=
  fun _ _ => ⟨_, _, rfl, rfl⟩
theorem LengthByFirstByte.callZNn (nn : Word) : LengthByFirstByte.Statement (.callZNn nn) := fun _ _ => ⟨_, _, rfl, rfl⟩
theorem LengthByFirstByte.callNn (nn : Word) : LengthByFirstByte.Statement (.callNn nn) := fun _ _ => ⟨_, _, rfl, rfl⟩
theorem LengthByFirstByte.adcAN (n : Byte) : LengthByFirstByte.Statement (.adcAN n) := fun _ _ => ⟨_, _, rfl, rfl⟩
theorem LengthByFirstByte.rst08h : LengthByFirstByte.Statement .rst08h := fun _ _ => ⟨_, _, rfl, rfl⟩
theorem LengthByFirstByte.retNc : LengthByFirstByte.Statement .retNc := fun _ _ => ⟨_, _, rfl, rfl⟩
theorem LengthByFirstByte.popDe : LengthByFirstByte.Statement .popDe := fun _ _ => ⟨_, _, rfl, rfl⟩
theorem LengthByFirstByte.jpNcNn (nn : Word) : LengthByFirstByte.Statement (.jpNcNn nn) := fun _ _ => ⟨_, _, rfl, rfl⟩
theorem LengthByFirstByte.illegal (op : Byte) : LengthByFirstByte.Statement (.illegal op) :=
  fun h sl => ⟨op, [], rfl, length_of_unrecognized (by simpa [Instr.wellFormed, WellFormed.isCanonicalSpelling] using h) sl⟩
theorem LengthByFirstByte.callNcNn (nn : Word) : LengthByFirstByte.Statement (.callNcNn nn) := fun _ _ => ⟨_, _, rfl, rfl⟩
theorem LengthByFirstByte.pushDe : LengthByFirstByte.Statement .pushDe := fun _ _ => ⟨_, _, rfl, rfl⟩
theorem LengthByFirstByte.subN (n : Byte) : LengthByFirstByte.Statement (.subN n) := fun _ _ => ⟨_, _, rfl, rfl⟩
theorem LengthByFirstByte.rst10h : LengthByFirstByte.Statement .rst10h := fun _ _ => ⟨_, _, rfl, rfl⟩
theorem LengthByFirstByte.retC : LengthByFirstByte.Statement .retC := fun _ _ => ⟨_, _, rfl, rfl⟩
theorem LengthByFirstByte.reti : LengthByFirstByte.Statement .reti := fun _ _ => ⟨_, _, rfl, rfl⟩
theorem LengthByFirstByte.jpCNn (nn : Word) : LengthByFirstByte.Statement (.jpCNn nn) := fun _ _ => ⟨_, _, rfl, rfl⟩
theorem LengthByFirstByte.callCNn (nn : Word) : LengthByFirstByte.Statement (.callCNn nn) := fun _ _ => ⟨_, _, rfl, rfl⟩
theorem LengthByFirstByte.sbcAN (n : Byte) : LengthByFirstByte.Statement (.sbcAN n) := fun _ _ => ⟨_, _, rfl, rfl⟩
theorem LengthByFirstByte.rst18h : LengthByFirstByte.Statement .rst18h := fun _ _ => ⟨_, _, rfl, rfl⟩
theorem LengthByFirstByte.ldhAtNA (n : Byte) : LengthByFirstByte.Statement (.ldhAtNA n) := fun _ _ => ⟨_, _, rfl, rfl⟩
theorem LengthByFirstByte.popHl : LengthByFirstByte.Statement .popHl := fun _ _ => ⟨_, _, rfl, rfl⟩
theorem LengthByFirstByte.ldAtCA : LengthByFirstByte.Statement .ldAtCA := fun _ _ => ⟨_, _, rfl, rfl⟩
theorem LengthByFirstByte.pushHl : LengthByFirstByte.Statement .pushHl := fun _ _ => ⟨_, _, rfl, rfl⟩
theorem LengthByFirstByte.andN (n : Byte) : LengthByFirstByte.Statement (.andN n) := fun _ _ => ⟨_, _, rfl, rfl⟩
theorem LengthByFirstByte.rst20h : LengthByFirstByte.Statement .rst20h := fun _ _ => ⟨_, _, rfl, rfl⟩
theorem LengthByFirstByte.addSpRel (e : Byte) : LengthByFirstByte.Statement (.addSpRel e) := fun _ _ => ⟨_, _, rfl, rfl⟩
theorem LengthByFirstByte.jpHl : LengthByFirstByte.Statement .jpHl := fun _ _ => ⟨_, _, rfl, rfl⟩
theorem LengthByFirstByte.ldAtNnA (nn : Word) : LengthByFirstByte.Statement (.ldAtNnA nn) := fun _ _ => ⟨_, _, rfl, rfl⟩
theorem LengthByFirstByte.xorN (n : Byte) : LengthByFirstByte.Statement (.xorN n) := fun _ _ => ⟨_, _, rfl, rfl⟩
theorem LengthByFirstByte.rst28h : LengthByFirstByte.Statement .rst28h := fun _ _ => ⟨_, _, rfl, rfl⟩
theorem LengthByFirstByte.ldhAAtN (n : Byte) : LengthByFirstByte.Statement (.ldhAAtN n) := fun _ _ => ⟨_, _, rfl, rfl⟩
theorem LengthByFirstByte.popAf : LengthByFirstByte.Statement .popAf := fun _ _ => ⟨_, _, rfl, rfl⟩
theorem LengthByFirstByte.ldAAtC : LengthByFirstByte.Statement .ldAAtC := fun _ _ => ⟨_, _, rfl, rfl⟩
theorem LengthByFirstByte.di : LengthByFirstByte.Statement .di := fun _ _ => ⟨_, _, rfl, rfl⟩
theorem LengthByFirstByte.pushAf : LengthByFirstByte.Statement .pushAf := fun _ _ => ⟨_, _, rfl, rfl⟩
theorem LengthByFirstByte.orN (n : Byte) : LengthByFirstByte.Statement (.orN n) := fun _ _ => ⟨_, _, rfl, rfl⟩
theorem LengthByFirstByte.rst30h : LengthByFirstByte.Statement .rst30h := fun _ _ => ⟨_, _, rfl, rfl⟩
theorem LengthByFirstByte.ldHlSpRel (e : Byte) : LengthByFirstByte.Statement (.ldHlSpRel e) := fun _ _ => ⟨_, _, rfl, rfl⟩
theorem LengthByFirstByte.ldSpHl : LengthByFirstByte.Statement .ldSpHl := fun _ _ => ⟨_, _, rfl, rfl⟩
theorem LengthByFirstByte.ldAAtNn (nn : Word) : LengthByFirstByte.Statement (.ldAAtNn nn) := fun _ _ => ⟨_, _, rfl, rfl⟩
theorem LengthByFirstByte.ei : LengthByFirstByte.Statement .ei := fun _ _ => ⟨_, _, rfl, rfl⟩
theorem LengthByFirstByte.cpN (n : Byte) : LengthByFirstByte.Statement (.cpN n) := fun _ _ => ⟨_, _, rfl, rfl⟩
theorem LengthByFirstByte.rst38h : LengthByFirstByte.Statement .rst38h := fun _ _ => ⟨_, _, rfl, rfl⟩
theorem LengthByFirstByte.rlcB : LengthByFirstByte.Statement .rlcB := fun _ _ => ⟨_, _, rfl, rfl⟩
theorem LengthByFirstByte.rlcC : LengthByFirstByte.Statement .rlcC := fun _ _ => ⟨_, _, rfl, rfl⟩
theorem LengthByFirstByte.rlcD : LengthByFirstByte.Statement .rlcD := fun _ _ => ⟨_, _, rfl, rfl⟩
theorem LengthByFirstByte.rlcE : LengthByFirstByte.Statement .rlcE := fun _ _ => ⟨_, _, rfl, rfl⟩
theorem LengthByFirstByte.rlcH : LengthByFirstByte.Statement .rlcH := fun _ _ => ⟨_, _, rfl, rfl⟩
theorem LengthByFirstByte.rlcL : LengthByFirstByte.Statement .rlcL := fun _ _ => ⟨_, _, rfl, rfl⟩
theorem LengthByFirstByte.rlcAtHl : LengthByFirstByte.Statement .rlcAtHl := fun _ _ => ⟨_, _, rfl, rfl⟩
theorem LengthByFirstByte.rlcA : LengthByFirstByte.Statement .rlcA := fun _ _ => ⟨_, _, rfl, rfl⟩
theorem LengthByFirstByte.rrcB : LengthByFirstByte.Statement .rrcB := fun _ _ => ⟨_, _, rfl, rfl⟩
theorem LengthByFirstByte.rrcC : LengthByFirstByte.Statement .rrcC := fun _ _ => ⟨_, _, rfl, rfl⟩
theorem LengthByFirstByte.rrcD : LengthByFirstByte.Statement .rrcD := fun _ _ => ⟨_, _, rfl, rfl⟩
theorem LengthByFirstByte.rrcE : LengthByFirstByte.Statement .rrcE := fun _ _ => ⟨_, _, rfl, rfl⟩
theorem LengthByFirstByte.rrcH : LengthByFirstByte.Statement .rrcH := fun _ _ => ⟨_, _, rfl, rfl⟩
theorem LengthByFirstByte.rrcL : LengthByFirstByte.Statement .rrcL := fun _ _ => ⟨_, _, rfl, rfl⟩
theorem LengthByFirstByte.rrcAtHl : LengthByFirstByte.Statement .rrcAtHl := fun _ _ => ⟨_, _, rfl, rfl⟩
theorem LengthByFirstByte.rrcA : LengthByFirstByte.Statement .rrcA := fun _ _ => ⟨_, _, rfl, rfl⟩
theorem LengthByFirstByte.rlB : LengthByFirstByte.Statement .rlB := fun _ _ => ⟨_, _, rfl, rfl⟩
theorem LengthByFirstByte.rlC : LengthByFirstByte.Statement .rlC := fun _ _ => ⟨_, _, rfl, rfl⟩
theorem LengthByFirstByte.rlD : LengthByFirstByte.Statement .rlD := fun _ _ => ⟨_, _, rfl, rfl⟩
theorem LengthByFirstByte.rlE : LengthByFirstByte.Statement .rlE := fun _ _ => ⟨_, _, rfl, rfl⟩
theorem LengthByFirstByte.rlH : LengthByFirstByte.Statement .rlH := fun _ _ => ⟨_, _, rfl, rfl⟩
theorem LengthByFirstByte.rlL : LengthByFirstByte.Statement .rlL := fun _ _ => ⟨_, _, rfl, rfl⟩
theorem LengthByFirstByte.rlAtHl : LengthByFirstByte.Statement .rlAtHl := fun _ _ => ⟨_, _, rfl, rfl⟩
theorem LengthByFirstByte.rlA : LengthByFirstByte.Statement .rlA := fun _ _ => ⟨_, _, rfl, rfl⟩
theorem LengthByFirstByte.rrB : LengthByFirstByte.Statement .rrB := fun _ _ => ⟨_, _, rfl, rfl⟩
theorem LengthByFirstByte.rrC : LengthByFirstByte.Statement .rrC := fun _ _ => ⟨_, _, rfl, rfl⟩
theorem LengthByFirstByte.rrD : LengthByFirstByte.Statement .rrD := fun _ _ => ⟨_, _, rfl, rfl⟩
theorem LengthByFirstByte.rrE : LengthByFirstByte.Statement .rrE := fun _ _ => ⟨_, _, rfl, rfl⟩
theorem LengthByFirstByte.rrH : LengthByFirstByte.Statement .rrH := fun _ _ => ⟨_, _, rfl, rfl⟩
theorem LengthByFirstByte.rrL : LengthByFirstByte.Statement .rrL := fun _ _ => ⟨_, _, rfl, rfl⟩
theorem LengthByFirstByte.rrAtHl : LengthByFirstByte.Statement .rrAtHl := fun _ _ => ⟨_, _, rfl, rfl⟩
theorem LengthByFirstByte.rrA : LengthByFirstByte.Statement .rrA := fun _ _ => ⟨_, _, rfl, rfl⟩
theorem LengthByFirstByte.slaB : LengthByFirstByte.Statement .slaB := fun _ _ => ⟨_, _, rfl, rfl⟩
theorem LengthByFirstByte.slaC : LengthByFirstByte.Statement .slaC := fun _ _ => ⟨_, _, rfl, rfl⟩
theorem LengthByFirstByte.slaD : LengthByFirstByte.Statement .slaD := fun _ _ => ⟨_, _, rfl, rfl⟩
theorem LengthByFirstByte.slaE : LengthByFirstByte.Statement .slaE := fun _ _ => ⟨_, _, rfl, rfl⟩
theorem LengthByFirstByte.slaH : LengthByFirstByte.Statement .slaH := fun _ _ => ⟨_, _, rfl, rfl⟩
theorem LengthByFirstByte.slaL : LengthByFirstByte.Statement .slaL := fun _ _ => ⟨_, _, rfl, rfl⟩
theorem LengthByFirstByte.slaAtHl : LengthByFirstByte.Statement .slaAtHl := fun _ _ => ⟨_, _, rfl, rfl⟩
theorem LengthByFirstByte.slaA : LengthByFirstByte.Statement .slaA := fun _ _ => ⟨_, _, rfl, rfl⟩
theorem LengthByFirstByte.sraB : LengthByFirstByte.Statement .sraB := fun _ _ => ⟨_, _, rfl, rfl⟩
theorem LengthByFirstByte.sraC : LengthByFirstByte.Statement .sraC := fun _ _ => ⟨_, _, rfl, rfl⟩
theorem LengthByFirstByte.sraD : LengthByFirstByte.Statement .sraD := fun _ _ => ⟨_, _, rfl, rfl⟩
theorem LengthByFirstByte.sraE : LengthByFirstByte.Statement .sraE := fun _ _ => ⟨_, _, rfl, rfl⟩
theorem LengthByFirstByte.sraH : LengthByFirstByte.Statement .sraH := fun _ _ => ⟨_, _, rfl, rfl⟩
theorem LengthByFirstByte.sraL : LengthByFirstByte.Statement .sraL := fun _ _ => ⟨_, _, rfl, rfl⟩
theorem LengthByFirstByte.sraAtHl : LengthByFirstByte.Statement .sraAtHl := fun _ _ => ⟨_, _, rfl, rfl⟩
theorem LengthByFirstByte.sraA : LengthByFirstByte.Statement .sraA := fun _ _ => ⟨_, _, rfl, rfl⟩
theorem LengthByFirstByte.swapB : LengthByFirstByte.Statement .swapB := fun _ _ => ⟨_, _, rfl, rfl⟩
theorem LengthByFirstByte.swapC : LengthByFirstByte.Statement .swapC := fun _ _ => ⟨_, _, rfl, rfl⟩
theorem LengthByFirstByte.swapD : LengthByFirstByte.Statement .swapD := fun _ _ => ⟨_, _, rfl, rfl⟩
theorem LengthByFirstByte.swapE : LengthByFirstByte.Statement .swapE := fun _ _ => ⟨_, _, rfl, rfl⟩
theorem LengthByFirstByte.swapH : LengthByFirstByte.Statement .swapH := fun _ _ => ⟨_, _, rfl, rfl⟩
theorem LengthByFirstByte.swapL : LengthByFirstByte.Statement .swapL := fun _ _ => ⟨_, _, rfl, rfl⟩
theorem LengthByFirstByte.swapAtHl : LengthByFirstByte.Statement .swapAtHl := fun _ _ => ⟨_, _, rfl, rfl⟩
theorem LengthByFirstByte.swapA : LengthByFirstByte.Statement .swapA := fun _ _ => ⟨_, _, rfl, rfl⟩
theorem LengthByFirstByte.srlB : LengthByFirstByte.Statement .srlB := fun _ _ => ⟨_, _, rfl, rfl⟩
theorem LengthByFirstByte.srlC : LengthByFirstByte.Statement .srlC := fun _ _ => ⟨_, _, rfl, rfl⟩
theorem LengthByFirstByte.srlD : LengthByFirstByte.Statement .srlD := fun _ _ => ⟨_, _, rfl, rfl⟩
theorem LengthByFirstByte.srlE : LengthByFirstByte.Statement .srlE := fun _ _ => ⟨_, _, rfl, rfl⟩
theorem LengthByFirstByte.srlH : LengthByFirstByte.Statement .srlH := fun _ _ => ⟨_, _, rfl, rfl⟩
theorem LengthByFirstByte.srlL : LengthByFirstByte.Statement .srlL := fun _ _ => ⟨_, _, rfl, rfl⟩
theorem LengthByFirstByte.srlAtHl : LengthByFirstByte.Statement .srlAtHl := fun _ _ => ⟨_, _, rfl, rfl⟩
theorem LengthByFirstByte.srlA : LengthByFirstByte.Statement .srlA := fun _ _ => ⟨_, _, rfl, rfl⟩
theorem LengthByFirstByte.bit0B : LengthByFirstByte.Statement .bit0B := fun _ _ => ⟨_, _, rfl, rfl⟩
theorem LengthByFirstByte.bit0C : LengthByFirstByte.Statement .bit0C := fun _ _ => ⟨_, _, rfl, rfl⟩
theorem LengthByFirstByte.bit0D : LengthByFirstByte.Statement .bit0D := fun _ _ => ⟨_, _, rfl, rfl⟩
theorem LengthByFirstByte.bit0E : LengthByFirstByte.Statement .bit0E := fun _ _ => ⟨_, _, rfl, rfl⟩
theorem LengthByFirstByte.bit0H : LengthByFirstByte.Statement .bit0H := fun _ _ => ⟨_, _, rfl, rfl⟩
theorem LengthByFirstByte.bit0L : LengthByFirstByte.Statement .bit0L := fun _ _ => ⟨_, _, rfl, rfl⟩
theorem LengthByFirstByte.bit0AtHl : LengthByFirstByte.Statement .bit0AtHl := fun _ _ => ⟨_, _, rfl, rfl⟩
theorem LengthByFirstByte.bit0A : LengthByFirstByte.Statement .bit0A := fun _ _ => ⟨_, _, rfl, rfl⟩
theorem LengthByFirstByte.bit1B : LengthByFirstByte.Statement .bit1B := fun _ _ => ⟨_, _, rfl, rfl⟩
theorem LengthByFirstByte.bit1C : LengthByFirstByte.Statement .bit1C := fun _ _ => ⟨_, _, rfl, rfl⟩
theorem LengthByFirstByte.bit1D : LengthByFirstByte.Statement .bit1D := fun _ _ => ⟨_, _, rfl, rfl⟩
theorem LengthByFirstByte.bit1E : LengthByFirstByte.Statement .bit1E := fun _ _ => ⟨_, _, rfl, rfl⟩
theorem LengthByFirstByte.bit1H : LengthByFirstByte.Statement .bit1H := fun _ _ => ⟨_, _, rfl, rfl⟩
theorem LengthByFirstByte.bit1L : LengthByFirstByte.Statement .bit1L := fun _ _ => ⟨_, _, rfl, rfl⟩
theorem LengthByFirstByte.bit1AtHl : LengthByFirstByte.Statement .bit1AtHl := fun _ _ => ⟨_, _, rfl, rfl⟩
theorem LengthByFirstByte.bit1A : LengthByFirstByte.Statement .bit1A := fun _ _ => ⟨_, _, rfl, rfl⟩
theorem LengthByFirstByte.bit2B : LengthByFirstByte.Statement .bit2B := fun _ _ => ⟨_, _, rfl, rfl⟩
theorem LengthByFirstByte.bit2C : LengthByFirstByte.Statement .bit2C := fun _ _ => ⟨_, _, rfl, rfl⟩
theorem LengthByFirstByte.bit2D : LengthByFirstByte.Statement .bit2D := fun _ _ => ⟨_, _, rfl, rfl⟩
theorem LengthByFirstByte.bit2E : LengthByFirstByte.Statement .bit2E := fun _ _ => ⟨_, _, rfl, rfl⟩
theorem LengthByFirstByte.bit2H : LengthByFirstByte.Statement .bit2H := fun _ _ => ⟨_, _, rfl, rfl⟩
theorem LengthByFirstByte.bit2L : LengthByFirstByte.Statement .bit2L := fun _ _ => ⟨_, _, rfl, rfl⟩
theorem LengthByFirstByte.bit2AtHl : LengthByFirstByte.Statement .bit2AtHl := fun _ _ => ⟨_, _, rfl, rfl⟩
theorem LengthByFirstByte.bit2A : LengthByFirstByte.Statement .bit2A := fun _ _ => ⟨_, _, rfl, rfl⟩
theorem LengthByFirstByte.bit3B : LengthByFirstByte.Statement .bit3B := fun _ _ => ⟨_, _, rfl, rfl⟩
theorem LengthByFirstByte.bit3C : LengthByFirstByte.Statement .bit3C := fun _ _ => ⟨_, _, rfl, rfl⟩
theorem LengthByFirstByte.bit3D : LengthByFirstByte.Statement .bit3D := fun _ _ => ⟨_, _, rfl, rfl⟩
theorem LengthByFirstByte.bit3E : LengthByFirstByte.Statement .bit3E := fun _ _ => ⟨_, _, rfl, rfl⟩
theorem LengthByFirstByte.bit3H : LengthByFirstByte.Statement .bit3H := fun _ _ => ⟨_, _, rfl, rfl⟩
theorem LengthByFirstByte.bit3L : LengthByFirstByte.Statement .bit3L := fun _ _ => ⟨_, _, rfl, rfl⟩
theorem LengthByFirstByte.bit3AtHl : LengthByFirstByte.Statement .bit3AtHl := fun _ _ => ⟨_, _, rfl, rfl⟩
theorem LengthByFirstByte.bit3A : LengthByFirstByte.Statement .bit3A := fun _ _ => ⟨_, _, rfl, rfl⟩
theorem LengthByFirstByte.bit4B : LengthByFirstByte.Statement .bit4B := fun _ _ => ⟨_, _, rfl, rfl⟩
theorem LengthByFirstByte.bit4C : LengthByFirstByte.Statement .bit4C := fun _ _ => ⟨_, _, rfl, rfl⟩
theorem LengthByFirstByte.bit4D : LengthByFirstByte.Statement .bit4D := fun _ _ => ⟨_, _, rfl, rfl⟩
theorem LengthByFirstByte.bit4E : LengthByFirstByte.Statement .bit4E := fun _ _ => ⟨_, _, rfl, rfl⟩
theorem LengthByFirstByte.bit4H : LengthByFirstByte.Statement .bit4H := fun _ _ => ⟨_, _, rfl, rfl⟩
theorem LengthByFirstByte.bit4L : LengthByFirstByte.Statement .bit4L := fun _ _ => ⟨_, _, rfl, rfl⟩
theorem LengthByFirstByte.bit4AtHl : LengthByFirstByte.Statement .bit4AtHl := fun _ _ => ⟨_, _, rfl, rfl⟩
theorem LengthByFirstByte.bit4A : LengthByFirstByte.Statement .bit4A := fun _ _ => ⟨_, _, rfl, rfl⟩
theorem LengthByFirstByte.bit5B : LengthByFirstByte.Statement .bit5B := fun _ _ => ⟨_, _, rfl, rfl⟩
theorem LengthByFirstByte.bit5C : LengthByFirstByte.Statement .bit5C := fun _ _ => ⟨_, _, rfl, rfl⟩
theorem LengthByFirstByte.bit5D : LengthByFirstByte.Statement .bit5D := fun _ _ => ⟨_, _, rfl, rfl⟩
theorem LengthByFirstByte.bit5E : LengthByFirstByte.Statement .bit5E := fun _ _ => ⟨_, _, rfl, rfl⟩
theorem LengthByFirstByte.bit5H : LengthByFirstByte.Statement .bit5H := fun _ _ => ⟨_, _, rfl, rfl⟩
theorem LengthByFirstByte.bit5L : LengthByFirstByte.Statement .bit5L := fun _ _ => ⟨_, _, rfl, rfl⟩
theorem LengthByFirstByte.bit5AtHl : LengthByFirstByte.Statement .bit5AtHl := fun _ _ => ⟨_, _, rfl, rfl⟩
theorem LengthByFirstByte.bit5A : LengthByFirstByte.Statement .bit5A := fun _ _ => ⟨_, _, rfl, rfl⟩
theorem LengthByFirstByte.bit6B : LengthByFirstByte.Statement .bit6B := fun _ _ => ⟨_, _, rfl, rfl⟩
theorem LengthByFirstByte.bit6C : LengthByFirstByte.Statement .bit6C := fun _ _ => ⟨_, _, rfl, rfl⟩
theorem LengthByFirstByte.bit6D : LengthByFirstByte.Statement .bit6D := fun _ _ => ⟨_, _, rfl, rfl⟩
theorem LengthByFirstByte.bit6E : LengthByFirstByte.Statement .bit6E := fun _ _ => ⟨_, _, rfl, rfl⟩
theorem LengthByFirstByte.bit6H : LengthByFirstByte.Statement .bit6H := fun _ _ => ⟨_, _, rfl, rfl⟩
theorem LengthByFirstByte.bit6L : LengthByFirstByte.Statement .bit6L := fun _ _ => ⟨_, _, rfl, rfl⟩
theorem LengthByFirstByte.bit6AtHl : LengthByFirstByte.Statement .bit6AtHl := fun _ _ => ⟨_, _, rfl, rfl⟩
theorem LengthByFirstByte.bit6A : LengthByFirstByte.Statement .bit6A := fun _ _ => ⟨_, _, rfl, rfl⟩
theorem LengthByFirstByte.bit7B : LengthByFirstByte.Statement .bit7B := fun _ _ => ⟨_, _, rfl, rfl⟩
theorem LengthByFirstByte.bit7C : LengthByFirstByte.Statement .bit7C := fun _ _ => ⟨_, _, rfl, rfl⟩
theorem LengthByFirstByte.bit7D : LengthByFirstByte.Statement .bit7D := fun _ _ => ⟨_, _, rfl, rfl⟩
theorem LengthByFirstByte.bit7E : LengthByFirstByte.Statement .bit7E := fun _ _ => ⟨_, _, rfl, rfl⟩
theorem LengthByFirstByte.bit7H : LengthByFirstByte.Statement .bit7H := fun _ _ => ⟨_, _, rfl, rfl⟩
theorem LengthByFirstByte.bit7L : LengthByFirstByte.Statement .bit7L := fun _ _ => ⟨_, _, rfl, rfl⟩
theorem LengthByFirstByte.bit7AtHl : LengthByFirstByte.Statement .bit7AtHl := fun _ _ => ⟨_, _, rfl, rfl⟩
theorem LengthByFirstByte.bit7A : LengthByFirstByte.Statement .bit7A := fun _ _ => ⟨_, _, rfl, rfl⟩
theorem LengthByFirstByte.res0B : LengthByFirstByte.Statement .res0B := fun _ _ => ⟨_, _, rfl, rfl⟩
theorem LengthByFirstByte.res0C : LengthByFirstByte.Statement .res0C := fun _ _ => ⟨_, _, rfl, rfl⟩
theorem LengthByFirstByte.res0D : LengthByFirstByte.Statement .res0D := fun _ _ => ⟨_, _, rfl, rfl⟩
theorem LengthByFirstByte.res0E : LengthByFirstByte.Statement .res0E := fun _ _ => ⟨_, _, rfl, rfl⟩
theorem LengthByFirstByte.res0H : LengthByFirstByte.Statement .res0H := fun _ _ => ⟨_, _, rfl, rfl⟩
theorem LengthByFirstByte.res0L : LengthByFirstByte.Statement .res0L := fun _ _ => ⟨_, _, rfl, rfl⟩
theorem LengthByFirstByte.res0AtHl : LengthByFirstByte.Statement .res0AtHl := fun _ _ => ⟨_, _, rfl, rfl⟩
theorem LengthByFirstByte.res0A : LengthByFirstByte.Statement .res0A := fun _ _ => ⟨_, _, rfl, rfl⟩
theorem LengthByFirstByte.res1B : LengthByFirstByte.Statement .res1B := fun _ _ => ⟨_, _, rfl, rfl⟩
theorem LengthByFirstByte.res1C : LengthByFirstByte.Statement .res1C := fun _ _ => ⟨_, _, rfl, rfl⟩
theorem LengthByFirstByte.res1D : LengthByFirstByte.Statement .res1D := fun _ _ => ⟨_, _, rfl, rfl⟩
theorem LengthByFirstByte.res1E : LengthByFirstByte.Statement .res1E := fun _ _ => ⟨_, _, rfl, rfl⟩
theorem LengthByFirstByte.res1H : LengthByFirstByte.Statement .res1H := fun _ _ => ⟨_, _, rfl, rfl⟩
theorem LengthByFirstByte.res1L : LengthByFirstByte.Statement .res1L := fun _ _ => ⟨_, _, rfl, rfl⟩
theorem LengthByFirstByte.res1AtHl : LengthByFirstByte.Statement .res1AtHl := fun _ _ => ⟨_, _, rfl, rfl⟩
theorem LengthByFirstByte.res1A : LengthByFirstByte.Statement .res1A := fun _ _ => ⟨_, _, rfl, rfl⟩
theorem LengthByFirstByte.res2B : LengthByFirstByte.Statement .res2B := fun _ _ => ⟨_, _, rfl, rfl⟩
theorem LengthByFirstByte.res2C : LengthByFirstByte.Statement .res2C := fun _ _ => ⟨_, _, rfl, rfl⟩
theorem LengthByFirstByte.res2D : LengthByFirstByte.Statement .res2D := fun _ _ => ⟨_, _, rfl, rfl⟩
theorem LengthByFirstByte.res2E : LengthByFirstByte.Statement .res2E := fun _ _ => ⟨_, _, rfl, rfl⟩
theorem LengthByFirstByte.res2H : LengthByFirstByte.Statement .res2H := fun _ _ => ⟨_, _, rfl, rfl⟩
theorem LengthByFirstByte.res2L : LengthByFirstByte.Statement .res2L := fun _ _ => ⟨_, _, rfl, rfl⟩
theorem LengthByFirstByte.res2AtHl : LengthByFirstByte.Statement .res2AtHl := fun _ _ => ⟨_, _, rfl, rfl⟩
theorem LengthByFirstByte.res2A : LengthByFirstByte.Statement .res2A := fun _ _ => ⟨_, _, rfl, rfl⟩
theorem LengthByFirstByte.res3B : LengthByFirstByte.Statement .res3B := fun _ _ => ⟨_, _, rfl, rfl⟩
theorem LengthByFirstByte.res3C : LengthByFirstByte.Statement .res3C := fun _ _ => ⟨_, _, rfl, rfl⟩
theorem LengthByFirstByte.res3D : LengthByFirstByte.Statement .res3D := fun _ _ => ⟨_, _, rfl, rfl⟩
theorem LengthByFirstByte.res3E : LengthByFirstByte.Statement .res3E := fun _ _ => ⟨_, _, rfl, rfl⟩
theorem LengthByFirstByte.res3H : LengthByFirstByte.Statement .res3H := fun _ _ => ⟨_, _, rfl, rfl⟩
theorem LengthByFirstByte.res3L : LengthByFirstByte.Statement .res3L := fun _ _ => ⟨_, _, rfl, rfl⟩
theorem LengthByFirstByte.res3AtHl : LengthByFirstByte.Statement .res3AtHl := fun _ _ => ⟨_, _, rfl, rfl⟩
theorem LengthByFirstByte.res3A : LengthByFirstByte.Statement .res3A := fun _ _ => ⟨_, _, rfl, rfl⟩
theorem LengthByFirstByte.res4B : LengthByFirstByte.Statement .res4B := fun _ _ => ⟨_, _, rfl, rfl⟩
theorem LengthByFirstByte.res4C : LengthByFirstByte.Statement .res4C := fun _ _ => ⟨_, _, rfl, rfl⟩
theorem LengthByFirstByte.res4D : LengthByFirstByte.Statement .res4D := fun _ _ => ⟨_, _, rfl, rfl⟩
theorem LengthByFirstByte.res4E : LengthByFirstByte.Statement .res4E := fun _ _ => ⟨_, _, rfl, rfl⟩
theorem LengthByFirstByte.res4H : LengthByFirstByte.Statement .res4H := fun _ _ => ⟨_, _, rfl, rfl⟩
theorem LengthByFirstByte.res4L : LengthByFirstByte.Statement .res4L := fun _ _ => ⟨_, _, rfl, rfl⟩
theorem LengthByFirstByte.res4AtHl : LengthByFirstByte.Statement .res4AtHl := fun _ _ => ⟨_, _, rfl, rfl⟩
theorem LengthByFirstByte.res4A : LengthByFirstByte.Statement .res4A := fun _ _ => ⟨_, _, rfl, rfl⟩
theorem LengthByFirstByte.res5B : LengthByFirstByte.Statement .res5B := fun _ _ => ⟨_, _, rfl, rfl⟩
theorem LengthByFirstByte.res5C : LengthByFirstByte.Statement .res5C := fun _ _ => ⟨_, _, rfl, rfl⟩
theorem LengthByFirstByte.res5D : LengthByFirstByte.Statement .res5D := fun _ _ => ⟨_, _, rfl, rfl⟩
theorem LengthByFirstByte.res5E : LengthByFirstByte.Statement .res5E := fun _ _ => ⟨_, _, rfl, rfl⟩
theorem LengthByFirstByte.res5H : LengthByFirstByte.Statement .res5H := fun _ _ => ⟨_, _, rfl, rfl⟩
theorem LengthByFirstByte.res5L : LengthByFirstByte.Statement .res5L := fun _ _ => ⟨_, _, rfl, rfl⟩
theorem LengthByFirstByte.res5AtHl : LengthByFirstByte.Statement .res5AtHl := fun _ _ => ⟨_, _, rfl, rfl⟩
theorem LengthByFirstByte.res5A : LengthByFirstByte.Statement .res5A := fun _ _ => ⟨_, _, rfl, rfl⟩
theorem LengthByFirstByte.res6B : LengthByFirstByte.Statement .res6B := fun _ _ => ⟨_, _, rfl, rfl⟩
theorem LengthByFirstByte.res6C : LengthByFirstByte.Statement .res6C := fun _ _ => ⟨_, _, rfl, rfl⟩
theorem LengthByFirstByte.res6D : LengthByFirstByte.Statement .res6D := fun _ _ => ⟨_, _, rfl, rfl⟩
theorem LengthByFirstByte.res6E : LengthByFirstByte.Statement .res6E := fun _ _ => ⟨_, _, rfl, rfl⟩
theorem LengthByFirstByte.res6H : LengthByFirstByte.Statement .res6H := fun _ _ => ⟨_, _, rfl, rfl⟩
theorem LengthByFirstByte.res6L : LengthByFirstByte.Statement .res6L := fun _ _ => ⟨_, _, rfl, rfl⟩
theorem LengthByFirstByte.res6AtHl : LengthByFirstByte.Statement .res6AtHl := fun _ _ => ⟨_, _, rfl, rfl⟩
theorem LengthByFirstByte.res6A : LengthByFirstByte.Statement .res6A := fun _ _ => ⟨_, _, rfl, rfl⟩
theorem LengthByFirstByte.res7B : LengthByFirstByte.Statement .res7B := fun _ _ => ⟨_, _, rfl, rfl⟩
theorem LengthByFirstByte.res7C : LengthByFirstByte.Statement .res7C := fun _ _ => ⟨_, _, rfl, rfl⟩
theorem LengthByFirstByte.res7D : LengthByFirstByte.Statement .res7D := fun _ _ => ⟨_, _, rfl, rfl⟩
theorem LengthByFirstByte.res7E : LengthByFirstByte.Statement .res7E := fun _ _ => ⟨_, _, rfl, rfl⟩
theorem LengthByFirstByte.res7H : LengthByFirstByte.Statement .res7H := fun _ _ => ⟨_, _, rfl, rfl⟩
theorem LengthByFirstByte.res7L : LengthByFirstByte.Statement .res7L := fun _ _ => ⟨_, _, rfl, rfl⟩
theorem LengthByFirstByte.res7AtHl : LengthByFirstByte.Statement .res7AtHl := fun _ _ => ⟨_, _, rfl, rfl⟩
theorem LengthByFirstByte.res7A : LengthByFirstByte.Statement .res7A := fun _ _ => ⟨_, _, rfl, rfl⟩
theorem LengthByFirstByte.set0B : LengthByFirstByte.Statement .set0B := fun _ _ => ⟨_, _, rfl, rfl⟩
theorem LengthByFirstByte.set0C : LengthByFirstByte.Statement .set0C := fun _ _ => ⟨_, _, rfl, rfl⟩
theorem LengthByFirstByte.set0D : LengthByFirstByte.Statement .set0D := fun _ _ => ⟨_, _, rfl, rfl⟩
theorem LengthByFirstByte.set0E : LengthByFirstByte.Statement .set0E := fun _ _ => ⟨_, _, rfl, rfl⟩
theorem LengthByFirstByte.set0H : LengthByFirstByte.Statement .set0H := fun _ _ => ⟨_, _, rfl, rfl⟩
theorem LengthByFirstByte.set0L : LengthByFirstByte.Statement .set0L := fun _ _ => ⟨_, _, rfl, rfl⟩
theorem LengthByFirstByte.set0AtHl : LengthByFirstByte.Statement .set0AtHl := fun _ _ => ⟨_, _, rfl, rfl⟩
theorem LengthByFirstByte.set0A : LengthByFirstByte.Statement .set0A := fun _ _ => ⟨_, _, rfl, rfl⟩
theorem LengthByFirstByte.set1B : LengthByFirstByte.Statement .set1B := fun _ _ => ⟨_, _, rfl, rfl⟩
theorem LengthByFirstByte.set1C : LengthByFirstByte.Statement .set1C := fun _ _ => ⟨_, _, rfl, rfl⟩
theorem LengthByFirstByte.set1D : LengthByFirstByte.Statement .set1D := fun _ _ => ⟨_, _, rfl, rfl⟩
theorem LengthByFirstByte.set1E : LengthByFirstByte.Statement .set1E := fun _ _ => ⟨_, _, rfl, rfl⟩
theorem LengthByFirstByte.set1H : LengthByFirstByte.Statement .set1H := fun _ _ => ⟨_, _, rfl, rfl⟩
theorem LengthByFirstByte.set1L : LengthByFirstByte.Statement .set1L := fun _ _ => ⟨_, _, rfl, rfl⟩
theorem LengthByFirstByte.set1AtHl : LengthByFirstByte.Statement .set1AtHl := fun _ _ => ⟨_, _, rfl, rfl⟩
theorem LengthByFirstByte.set1A : LengthByFirstByte.Statement .set1A := fun _ _ => ⟨_, _, rfl, rfl⟩
theorem LengthByFirstByte.set2B : LengthByFirstByte.Statement .set2B := fun _ _ => ⟨_, _, rfl, rfl⟩
theorem LengthByFirstByte.set2C : LengthByFirstByte.Statement .set2C := fun _ _ => ⟨_, _, rfl, rfl⟩
theorem LengthByFirstByte.set2D : LengthByFirstByte.Statement .set2D := fun _ _ => ⟨_, _, rfl, rfl⟩
theorem LengthByFirstByte.set2E : LengthByFirstByte.Statement .set2E := fun _ _ => ⟨_, _, rfl, rfl⟩
theorem LengthByFirstByte.set2H : LengthByFirstByte.Statement .set2H := fun _ _ => ⟨_, _, rfl, rfl⟩
theorem LengthByFirstByte.set2L : LengthByFirstByte.Statement .set2L := fun _ _ => ⟨_, _, rfl, rfl⟩
theorem LengthByFirstByte.set2AtHl : LengthByFirstByte.Statement .set2AtHl := fun _ _ => ⟨_, _, rfl, rfl⟩
theorem LengthByFirstByte.set2A : LengthByFirstByte.Statement .set2A := fun _ _ => ⟨_, _, rfl, rfl⟩
theorem LengthByFirstByte.set3B : LengthByFirstByte.Statement .set3B := fun _ _ => ⟨_, _, rfl, rfl⟩
theorem LengthByFirstByte.set3C : LengthByFirstByte.Statement .set3C := fun _ _ => ⟨_, _, rfl, rfl⟩
theorem LengthByFirstByte.set3D : LengthByFirstByte.Statement .set3D := fun _ _ => ⟨_, _, rfl, rfl⟩
theorem LengthByFirstByte.set3E : LengthByFirstByte.Statement .set3E := fun _ _ => ⟨_, _, rfl, rfl⟩
theorem LengthByFirstByte.set3H : LengthByFirstByte.Statement .set3H := fun _ _ => ⟨_, _, rfl, rfl⟩
theorem LengthByFirstByte.set3L : LengthByFirstByte.Statement .set3L := fun _ _ => ⟨_, _, rfl, rfl⟩
theorem LengthByFirstByte.set3AtHl : LengthByFirstByte.Statement .set3AtHl := fun _ _ => ⟨_, _, rfl, rfl⟩
theorem LengthByFirstByte.set3A : LengthByFirstByte.Statement .set3A := fun _ _ => ⟨_, _, rfl, rfl⟩
theorem LengthByFirstByte.set4B : LengthByFirstByte.Statement .set4B := fun _ _ => ⟨_, _, rfl, rfl⟩
theorem LengthByFirstByte.set4C : LengthByFirstByte.Statement .set4C := fun _ _ => ⟨_, _, rfl, rfl⟩
theorem LengthByFirstByte.set4D : LengthByFirstByte.Statement .set4D := fun _ _ => ⟨_, _, rfl, rfl⟩
theorem LengthByFirstByte.set4E : LengthByFirstByte.Statement .set4E := fun _ _ => ⟨_, _, rfl, rfl⟩
theorem LengthByFirstByte.set4H : LengthByFirstByte.Statement .set4H := fun _ _ => ⟨_, _, rfl, rfl⟩
theorem LengthByFirstByte.set4L : LengthByFirstByte.Statement .set4L := fun _ _ => ⟨_, _, rfl, rfl⟩
theorem LengthByFirstByte.set4AtHl : LengthByFirstByte.Statement .set4AtHl := fun _ _ => ⟨_, _, rfl, rfl⟩
theorem LengthByFirstByte.set4A : LengthByFirstByte.Statement .set4A := fun _ _ => ⟨_, _, rfl, rfl⟩
theorem LengthByFirstByte.set5B : LengthByFirstByte.Statement .set5B := fun _ _ => ⟨_, _, rfl, rfl⟩
theorem LengthByFirstByte.set5C : LengthByFirstByte.Statement .set5C := fun _ _ => ⟨_, _, rfl, rfl⟩
theorem LengthByFirstByte.set5D : LengthByFirstByte.Statement .set5D := fun _ _ => ⟨_, _, rfl, rfl⟩
theorem LengthByFirstByte.set5E : LengthByFirstByte.Statement .set5E := fun _ _ => ⟨_, _, rfl, rfl⟩
theorem LengthByFirstByte.set5H : LengthByFirstByte.Statement .set5H := fun _ _ => ⟨_, _, rfl, rfl⟩
theorem LengthByFirstByte.set5L : LengthByFirstByte.Statement .set5L := fun _ _ => ⟨_, _, rfl, rfl⟩
theorem LengthByFirstByte.set5AtHl : LengthByFirstByte.Statement .set5AtHl := fun _ _ => ⟨_, _, rfl, rfl⟩
theorem LengthByFirstByte.set5A : LengthByFirstByte.Statement .set5A := fun _ _ => ⟨_, _, rfl, rfl⟩
theorem LengthByFirstByte.set6B : LengthByFirstByte.Statement .set6B := fun _ _ => ⟨_, _, rfl, rfl⟩
theorem LengthByFirstByte.set6C : LengthByFirstByte.Statement .set6C := fun _ _ => ⟨_, _, rfl, rfl⟩
theorem LengthByFirstByte.set6D : LengthByFirstByte.Statement .set6D := fun _ _ => ⟨_, _, rfl, rfl⟩
theorem LengthByFirstByte.set6E : LengthByFirstByte.Statement .set6E := fun _ _ => ⟨_, _, rfl, rfl⟩
theorem LengthByFirstByte.set6H : LengthByFirstByte.Statement .set6H := fun _ _ => ⟨_, _, rfl, rfl⟩
theorem LengthByFirstByte.set6L : LengthByFirstByte.Statement .set6L := fun _ _ => ⟨_, _, rfl, rfl⟩
theorem LengthByFirstByte.set6AtHl : LengthByFirstByte.Statement .set6AtHl := fun _ _ => ⟨_, _, rfl, rfl⟩
theorem LengthByFirstByte.set6A : LengthByFirstByte.Statement .set6A := fun _ _ => ⟨_, _, rfl, rfl⟩
theorem LengthByFirstByte.set7B : LengthByFirstByte.Statement .set7B := fun _ _ => ⟨_, _, rfl, rfl⟩
theorem LengthByFirstByte.set7C : LengthByFirstByte.Statement .set7C := fun _ _ => ⟨_, _, rfl, rfl⟩
theorem LengthByFirstByte.set7D : LengthByFirstByte.Statement .set7D := fun _ _ => ⟨_, _, rfl, rfl⟩
theorem LengthByFirstByte.set7E : LengthByFirstByte.Statement .set7E := fun _ _ => ⟨_, _, rfl, rfl⟩
theorem LengthByFirstByte.set7H : LengthByFirstByte.Statement .set7H := fun _ _ => ⟨_, _, rfl, rfl⟩
theorem LengthByFirstByte.set7L : LengthByFirstByte.Statement .set7L := fun _ _ => ⟨_, _, rfl, rfl⟩
theorem LengthByFirstByte.set7AtHl : LengthByFirstByte.Statement .set7AtHl := fun _ _ => ⟨_, _, rfl, rfl⟩
theorem LengthByFirstByte.set7A : LengthByFirstByte.Statement .set7A := fun _ _ => ⟨_, _, rfl, rfl⟩

end Sys2Proof.Laws
end

