-- ==== Sys2Proof/Laws/Shape.lean ====
section
/-! SUPPORT. The 502 meanings come in 56 shapes: `shapeOf` says which shape and operands an instruction has, `Shape.run`
what a shape does to a state in terms of the shared operations, and `exec_eq_run` that exec is just that. A claim about
every instruction is then proved once a shape. -/

namespace Sys2Proof.Laws

open Sys2Proof.Machine

/-- The shapes of the meanings, with their operands; a number at the end is the cycle count where the operand decides
it. -/
inductive Shape where
  | nop
  | stop
  | halt
  | di
  | ei
  | prefixCb (op2 : Byte)
  | illegal (op : Byte)
  | copyReg (dst src : Reg8)
  | loadImm (dst : Reg8) (n : Byte)
  | loadAtHl (dst : Reg8)
  | storeAtHl (src : Reg8)
  | storeImmAtHl (n : Byte)
  | loadAtPair (p : Pair)
  | storeAtPair (p : Pair)
  | loadAbs (nn : Word)
  | storeAbs (nn : Word)
  | loadHigh (n : Byte)
  | storeHigh (n : Byte)
  | loadHighC
  | storeHighC
  | storeStep (d : Word)
  | loadStep (d : Word)
  | loadPair (p : Pair) (nn : Word)
  | storeSp (nn : Word)
  | spFromHl
  | hlFromSpRel (e : Byte)
  | push (p : StackPair)
  | pop (p : StackPair)
  | aluPlace (op : AluOp) (p : Place) (n : Nat)
  | aluImm (op : AluOp) (n : Byte)
  | incPlace (p : Place) (n : Nat)
  | decPlace (p : Place) (n : Nat)
  | daa
  | cpl
  | scf
  | ccf
  | addHl (p : Pair)
  | incPair (p : Pair)
  | decPair (p : Pair)
  | addSpRel (e : Byte)
  | rotA (op : RotOp)
  | rot (op : RotOp) (p : Place) (n : Nat)
  | bit (b : Fin 8) (p : Place) (n : Nat)
  | res (b : Fin 8) (p : Place) (n : Nat)
  | set (b : Fin 8) (p : Place) (n : Nat)
  | jump (nn : Word)
  | jumpIf (cc : Cond) (nn : Word)
  | jumpHl
  | jumpRel (e : Byte)
  | jumpRelIf (cc : Cond) (e : Byte)
  | call (nn : Word)
  | callIf (cc : Cond) (nn : Word)
  | ret
  | retIf (cc : Cond)
  | reti
  | rst (t : Word)

/-- What a shape does. -/
def Shape.run (s : State) : Shape → State
  | .nop => s.cycles 4
  | .stop => (s.setMode .stopped).cycles 4
  | .halt => (s.setMode .halted).cycles 4
  | .di => s.disableInterrupts.cycles 4
  | .ei => s.enableInterrupts.cycles 4
  | .prefixCb op2 => s.extended op2
  | .illegal op => s.raiseDecodeFault op (s.pc - 1)
  | .copyReg dst src => (s.setReg dst (s.reg src)).cycles 4
  | .loadImm dst n => (s.setReg dst n).cycles 8
  | .loadAtHl dst => (s.load dst s.hl).cycles 8
  | .storeAtHl src => (s.store s.hl (s.reg src)).cycles 8
  | .storeImmAtHl n => (s.store s.hl n).cycles 12
  | .loadAtPair p => (s.load .a (s.pair p)).cycles 8
  | .storeAtPair p => (s.store (s.pair p) s.a).cycles 8
  | .loadAbs nn => (s.load .a nn).cycles 16
  | .storeAbs nn => (s.store nn s.a).cycles 16
  | .loadHigh n => (s.load .a (highPage n)).cycles 12
  | .storeHigh n => (s.store (highPage n) s.a).cycles 12
  | .loadHighC => (s.load .a (highPage s.c)).cycles 8
  | .storeHighC => (s.store (highPage s.c) s.a).cycles 8
  | .storeStep d => ((s.store s.hl s.a).stepHl d).cycles 8
  | .loadStep d => ((s.load .a s.hl).stepHl d).cycles 8
  | .loadPair p nn => (s.setPair p nn).cycles 12
  | .storeSp nn => (s.write16 nn s.sp).cycles 20
  | .spFromHl => (s.setSp s.hl).cycles 8
  | .hlFromSpRel e => (s.loadHlSpRel e).cycles 12
  | .push p => (s.push16 (s.stackPair p)).cycles 16
  | .pop p => (s.pop16.2.setStackPair p s.pop16.1).cycles 12
  | .aluPlace op p n => (s.aluPlace op p).cycles n
  | .aluImm op n => (s.alu op n).cycles 8
  | .incPlace p n => (s.modify8 p inc8).cycles n
  | .decPlace p n => (s.modify8 p dec8).cycles n
  | .daa => (s.onA (bcdCorrect s.cfg.daaMode)).cycles 4
  | .cpl => s.complementA.cycles 4
  | .scf => s.setCarry.cycles 4
  | .ccf => s.flipCarry.cycles 4
  | .addHl p => (s.addToHl (s.pair p)).cycles 8
  | .incPair p => (s.setPair p (s.pair p + 1)).cycles 8
  | .decPair p => (s.setPair p (s.pair p - 1)).cycles 8
  | .addSpRel e => (s.addSpRel e).cycles 16
  | .rotA op => (s.onA (Machine.rotA op)).cycles 4
  | .rot op p n => (s.modify8 p (rot8 op)).cycles n
  | .bit b p n => (s.bitTest b p).cycles n
  | .res b p n => (s.modifyQuiet p (resBit b)).cycles n
  | .set b p n => (s.modifyQuiet p (setBit b)).cycles n
  | .jump nn => (s.setPc nn).cycles 16
  | .jumpIf cc nn => s.ifCond cc (·.setPc nn) 16 12
  | .jumpHl => (s.setPc s.hl).cycles 4
  | .jumpRel e => (s.jumpRel e).cycles 12
  | .jumpRelIf cc e => s.ifCond cc (·.jumpRel e) 12 8
  | .call nn => (s.call nn).cycles 24
  | .callIf cc nn => s.ifCond cc (·.call nn) 24 12
  | .ret => s.ret.cycles 16
  | .retIf cc => s.ifCond cc State.ret 20 8
  | .reti => s.returnFromInterrupt.cycles 16
  | .rst t => (s.call t).cycles 16

/-- The shape of an instruction. -/
def shapeOf : Instr → Shape
  | .nop => .nop
  | .ldBcNn nn => .loadPair .bc nn
  | .ldAtBcA => .storeAtPair .bc
  | .incBc => .incPair .bc
  | .incB => .incPlace (.reg .b) 4
  | .decB => .decPlace (.reg .b) 4
  | .ldBN n => .loadImm .b n
  | .rlca => .rotA .rlc
  | .ldAtNnSp nn => .storeSp nn
  | .addHlBc => .addHl .bc
  | .ldAAtBc => .loadAtPair .bc
  | .decBc => .decPair .bc
  | .incC => .incPlace (.reg .c) 4
  | .decC => .decPlace (.reg .c) 4
  | .ldCN n => .loadImm .c n
  | .rrca => .rotA .rrc
  | .stop => .stop
  | .ldDeNn nn => .loadPair .de nn
  | .ldAtDeA => .storeAtPair .de
  | .incDe => .incPair .de
  | .incD => .incPlace (.reg .d) 4
  | .decD => .decPlace (.reg .d) 4
  | .ldDN n => .loadImm .d n
  | .rla => .rotA .rl
  | .jrRel e => .jumpRel e
  | .addHlDe => .addHl .de
  | .ldAAtDe => .loadAtPair .de
  | .decDe => .decPair .de
  | .incE => .incPlace (.reg .e) 4
  | .decE => .decPlace (.reg .e) 4
  | .ldEN n => .loadImm .e n
  | .rra => .rotA .rr
  | .jrNzRel e => .jumpRelIf .nz e
  | .ldHlNn nn => .loadPair .hl nn
  | .ldAtHlIncA => .storeStep 1
  | .incHl => .incPair .hl
  | .incH => .incPlace (.reg .h) 4
  | .decH => .decPlace (.reg .h) 4
  | .ldHN n => .loadImm .h n
  | .daa => .daa
  | .jrZRel e => .jumpRelIf .z e
  | .addHlHl => .addHl .hl
  | .ldAAtHlInc => .loadStep 1
  | .decHl => .decPair .hl
  | .incL => .incPlace (.reg .l) 4
  | .decL => .decPlace (.reg .l) 4
  | .ldLN n => .loadImm .l n
  | .cpl => .cpl
  | .jrNcRel e => .jumpRelIf .nc e
  | .ldSpNn nn => .loadPair .sp nn
  | .ldAtHlDecA => .storeStep (-1)
  | .incSp => .incPair .sp
  | .incAtHl => .incPlace .atHl 12
  | .decAtHl => .decPlace .atHl 12
  | .ldAtHlN n => .storeImmAtHl n
  | .scf => .scf
  | .jrCRel e => .jumpRelIf .c e
  | .addHlSp => .addHl .sp
  | .ldAAtHlDec => .loadStep (-1)
  | .decSp => .decPair .sp
  | .incA => .incPlace (.reg .a) 4
  | .decA => .decPlace (.reg .a) 4
  | .ldAN n => .loadImm .a n
  | .ccf => .ccf
  | .ldBB => .copyReg .b .b
  | .ldBC => .copyReg .b .c
  | .ldBD => .copyReg .b .d
  | .ldBE => .copyReg .b .e
  | .ldBH => .copyReg .b .h
  | .ldBL => .copyReg .b .l
  | .ldBAtHl => .loadAtHl .b
  | .ldBA => .copyReg .b .a
  | .ldCB => .copyReg .c .b
  | .ldCC => .copyReg .c .c
  | .ldCD => .copyReg .c .d
  | .ldCE => .copyReg .c .e
  | .ldCH => .copyReg .c .h
  | .ldCL => .copyReg .c .l
  | .ldCAtHl => .loadAtHl .c
  | .ldCA => .copyReg .c .a
  | .ldDB => .copyReg .d .b
  | .ldDC => .copyReg .d .c
  | .ldDD => .copyReg .d .d
  | .ldDE => .copyReg .d .e
  | .ldDH => .copyReg .d .h
  | .ldDL => .copyReg .d .l
  | .ldDAtHl => .loadAtHl .d
  | .ldDA => .copyReg .d .a
  | .ldEB => .copyReg .e .b
  | .ldEC => .copyReg .e .c
  | .ldED => .copyReg .e .d
  | .ldEE => .copyReg .e .e
  | .ldEH => .copyReg .e .h
  | .ldEL => .copyReg .e .l
  | .ldEAtHl => .loadAtHl .e
  | .ldEA => .copyReg .e .a
  | .ldHB => .copyReg .h .b
  | .ldHC => .copyReg .h .c
  | .ldHD => .copyReg .h .d
  | .ldHE => .copyReg .h .e
  | .ldHH => .copyReg .h .h
  | .ldHL => .copyReg .h .l
  | .ldHAtHl => .loadAtHl .h
  | .ldHA => .copyReg .h .a
  | .ldLB => .copyReg .l .b
  | .ldLC => .copyReg .l .c
  | .ldLD => .copyReg .l .d
  | .ldLE => .copyReg .l .e
  | .ldLH => .copyReg .l .h
  | .ldLL => .copyReg .l .l
  | .ldLAtHl => .loadAtHl .l
  | .ldLA => .copyReg .l .a
  | .ldAtHlB => .storeAtHl .b
  | .ldAtHlC => .storeAtHl .c
  | .ldAtHlD => .storeAtHl .d
  | .ldAtHlE => .storeAtHl .e
  | .ldAtHlH => .storeAtHl .h
  | .ldAtHlL => .storeAtHl .l
  | .halt => .halt
  | .ldAtHlA => .storeAtHl .a
  | .ldAB => .copyReg .a .b
  | .ldAC => .copyReg .a .c
  | .ldAD => .copyReg .a .d
  | .ldAE => .copyReg .a .e
  | .ldAH => .copyReg .a .h
  | .ldAL => .copyReg .a .l
  | .ldAAtHl => .loadAtHl .a
  | .ldAA => .copyReg .a .a
  | .addAB => .aluPlace .add (.reg .b) 4
  | .addAC => .aluPlace .add (.reg .c) 4
  | .addAD => .aluPlace .add (.reg .d) 4
  | .addAE => .aluPlace .add (.reg .e) 4
  | .addAH => .aluPlace .add (.reg .h) 4
  | .addAL => .aluPlace .add (.reg .l) 4
  | .addAAtHl => .aluPlace .add .atHl 8
  | .addAA => .aluPlace .add (.reg .a) 4
  | .adcAB => .aluPlace .adc (.reg .b) 4
  | .adcAC => .aluPlace .adc (.reg .c) 4
  | .adcAD => .aluPlace .adc (.reg .d) 4
  | .adcAE => .aluPlace .adc (.reg .e) 4
  | .adcAH => .aluPlace .adc (.reg .h) 4
  | .adcAL => .aluPlace .adc (.reg .l) 4
  | .adcAAtHl => .aluPlace .adc .atHl 8
  | .adcAA => .aluPlace .adc (.reg .a) 4
  | .subB => .aluPlace .sub (.reg .b) 4
  | .subC => .aluPlace .sub (.reg .c) 4
  | .subD => .aluPlace .sub (.reg .d) 4
  | .subE => .aluPlace .sub (.reg .e) 4
  | .subH => .aluPlace .sub (.reg .h) 4
  | .subL => .aluPlace .sub (.reg .l) 4
  | .subAtHl => .aluPlace .sub .atHl 8
  | .subA => .aluPlace .sub (.reg .a) 4
  | .sbcAB => .aluPlace .sbc (.reg .b) 4
  | .sbcAC => .aluPlace .sbc (.reg .c) 4
  | .sbcAD => .aluPlace .sbc (.reg .d) 4
  | .sbcAE => .aluPlace .sbc (.reg .e) 4
  | .sbcAH => .aluPlace .sbc (.reg .h) 4
  | .sbcAL => .aluPlace .sbc (.reg .l) 4
  | .sbcAAtHl => .aluPlace .sbc .atHl 8
  | .sbcAA => .aluPlace .sbc (.reg .a) 4
  | .andB => .aluPlace .and (.reg .b) 4
  | .andC => .aluPlace .and (.reg .c) 4
  | .andD => .aluPlace .and (.reg .d) 4
  | .andE => .aluPlace .and (.reg .e) 4
  | .andH => .aluPlace .and (.reg .h) 4
  | .andL => .aluPlace .and (.reg .l) 4
  | .andAtHl => .aluPlace .and .atHl 8
  | .andA => .aluPlace .and (.reg .a) 4
  | .xorB => .aluPlace .xor (.reg .b) 4
  | .xorC => .aluPlace .xor (.reg .c) 4
  | .xorD => .aluPlace .xor (.reg .d) 4
  | .xorE => .aluPlace .xor (.reg .e) 4
  | .xorH => .aluPlace .xor (.reg .h) 4
  | .xorL => .aluPlace .xor (.reg .l) 4
  | .xorAtHl => .aluPlace .xor .atHl 8
  | .xorA => .aluPlace .xor (.reg .a) 4
  | .orB => .aluPlace .or (.reg .b) 4
  | .orC => .aluPlace .or (.reg .c) 4
  | .orD => .aluPlace .or (.reg .d) 4
  | .orE => .aluPlace .or (.reg .e) 4
  | .orH => .aluPlace .or (.reg .h) 4
  | .orL => .aluPlace .or (.reg .l) 4
  | .orAtHl => .aluPlace .or .atHl 8
  | .orA => .aluPlace .or (.reg .a) 4
  | .cpB => .aluPlace .cp (.reg .b) 4
  | .cpC => .aluPlace .cp (.reg .c) 4
  | .cpD => .aluPlace .cp (.reg .d) 4
  | .cpE => .aluPlace .cp (.reg .e) 4
  | .cpH => .aluPlace .cp (.reg .h) 4
  | .cpL => .aluPlace .cp (.reg .l) 4
  | .cpAtHl => .aluPlace .cp .atHl 8
  | .cpA => .aluPlace .cp (.reg .a) 4
  | .retNz => .retIf .nz
  | .popBc => .pop .bc
  | .jpNzNn nn => .jumpIf .nz nn
  | .jpNn nn => .jump nn
  | .callNzNn nn => .callIf .nz nn
  | .pushBc => .push .bc
  | .addAN n => .aluImm .add n
  | .rst00h => .rst 0x0000
  | .retZ => .retIf .z
  | .ret => .ret
  | .jpZNn nn => .jumpIf .z nn
  | .prefixCb op2 => .prefixCb op2
  | .callZNn nn => .callIf .z nn
  | .callNn nn => .call nn
  | .adcAN n => .aluImm .adc n
  | .rst08h => .rst 0x0008
  | .retNc => .retIf .nc
  | .popDe => .pop .de
  | .jpNcNn nn => .jumpIf .nc nn
  | .illegal op => .illegal op
  | .callNcNn nn => .callIf .nc nn
  | .pushDe => .push .de
  | .subN n => .aluImm .sub n
  | .rst10h => .rst 0x0010
  | .retC => .retIf .c
  | .reti => .reti
  | .jpCNn nn => .jumpIf .c nn
  | .callCNn nn => .callIf .c nn
  | .sbcAN n => .aluImm .sbc n
  | .rst18h => .rst 0x0018
  | .ldhAtNA n => .storeHigh n
  | .popHl => .pop .hl
  | .ldAtCA => .storeHighC
  | .pushHl => .push .hl
  | .andN n => .aluImm .and n
  | .rst20h => .rst 0x0020
  | .addSpRel e => .addSpRel e
  | .jpHl => .jumpHl
  | .ldAtNnA nn => .storeAbs nn
  | .xorN n => .aluImm .xor n
  | .rst28h => .rst 0x0028
  | .ldhAAtN n => .loadHigh n
  | .popAf => .pop .af
  | .ldAAtC => .loadHighC
  | .di => .di
  | .pushAf => .push .af
  | .orN n => .aluImm .or n
  | .rst30h => .rst 0x0030
  | .ldHlSpRel e => .hlFromSpRel e
  | .ldSpHl => .spFromHl
  | .ldAAtNn nn => .loadAbs nn
  | .ei => .ei
  | .cpN n => .aluImm .cp n
  | .rst38h => .rst 0x0038
  | .rlcB => .rot .rlc (.reg .b) 8
  | .rlcC => .rot .rlc (.reg .c) 8
  | .rlcD => .rot .rlc (.reg .d) 8
  | .rlcE => .rot .rlc (.reg .e) 8
  | .rlcH => .rot .rlc (.reg .h) 8
  | .rlcL => .rot .rlc (.reg .l) 8
  | .rlcAtHl => .rot .rlc .atHl 16
  | .rlcA => .rot .rlc (.reg .a) 8
  | .rrcB => .rot .rrc (.reg .b) 8
  | .rrcC => .rot .rrc (.reg .c) 8
  | .rrcD => .rot .rrc (.reg .d) 8
  | .rrcE => .rot .rrc (.reg .e) 8
  | .rrcH => .rot .rrc (.reg .h) 8
  | .rrcL => .rot .rrc (.reg .l) 8
  | .rrcAtHl => .rot .rrc .atHl 16
  | .rrcA => .rot .rrc (.reg .a) 8
  | .rlB => .rot .rl (.reg .b) 8
  | .rlC => .rot .rl (.reg .c) 8
  | .rlD => .rot .rl (.reg .d) 8
  | .rlE => .rot .rl (.reg .e) 8
  | .rlH => .rot .rl (.reg .h) 8
  | .rlL => .rot .rl (.reg .l) 8
  | .rlAtHl => .rot .rl .atHl 16
  | .rlA => .rot .rl (.reg .a) 8
  | .rrB => .rot .rr (.reg .b) 8
  | .rrC => .rot .rr (.reg .c) 8
  | .rrD => .rot .rr (.reg .d) 8
  | .rrE => .rot .rr (.reg .e) 8
  | .rrH => .rot .rr (.reg .h) 8
  | .rrL => .rot .rr (.reg .l) 8
  | .rrAtHl => .rot .rr .atHl 16
  | .rrA => .rot .rr (.reg .a) 8
  | .slaB => .rot .sla (.reg .b) 8
  | .slaC => .rot .sla (.reg .c) 8
  | .slaD => .rot .sla (.reg .d) 8
  | .slaE => .rot .sla (.reg .e) 8
  | .slaH => .rot .sla (.reg .h) 8
  | .slaL => .rot .sla (.reg .l) 8
  | .slaAtHl => .rot .sla .atHl 16
  | .slaA => .rot .sla (.reg .a) 8
  | .sraB => .rot .sra (.reg .b) 8
  | .sraC => .rot .sra (.reg .c) 8
  | .sraD => .rot .sra (.reg .d) 8
  | .sraE => .rot .sra (.reg .e) 8
  | .sraH => .rot .sra (.reg .h) 8
  | .sraL => .rot .sra (.reg .l) 8
  | .sraAtHl => .rot .sra .atHl 16
  | .sraA => .rot .sra (.reg .a) 8
  | .swapB => .rot .swap (.reg .b) 8
  | .swapC => .rot .swap (.reg .c) 8
  | .swapD => .rot .swap (.reg .d) 8
  | .swapE => .rot .swap (.reg .e) 8
  | .swapH => .rot .swap (.reg .h) 8
  | .swapL => .rot .swap (.reg .l) 8
  | .swapAtHl => .rot .swap .atHl 16
  | .swapA => .rot .swap (.reg .a) 8
  | .srlB => .rot .srl (.reg .b) 8
  | .srlC => .rot .srl (.reg .c) 8
  | .srlD => .rot .srl (.reg .d) 8
  | .srlE => .rot .srl (.reg .e) 8
  | .srlH => .rot .srl (.reg .h) 8
  | .srlL => .rot .srl (.reg .l) 8
  | .srlAtHl => .rot .srl .atHl 16
  | .srlA => .rot .srl (.reg .a) 8
  | .bit0B => .bit 0 (.reg .b) 8
  | .bit0C => .bit 0 (.reg .c) 8
  | .bit0D => .bit 0 (.reg .d) 8
  | .bit0E => .bit 0 (.reg .e) 8
  | .bit0H => .bit 0 (.reg .h) 8
  | .bit0L => .bit 0 (.reg .l) 8
  | .bit0AtHl => .bit 0 .atHl 12
  | .bit0A => .bit 0 (.reg .a) 8
  | .bit1B => .bit 1 (.reg .b) 8
  | .bit1C => .bit 1 (.reg .c) 8
  | .bit1D => .bit 1 (.reg .d) 8
  | .bit1E => .bit 1 (.reg .e) 8
  | .bit1H => .bit 1 (.reg .h) 8
  | .bit1L => .bit 1 (.reg .l) 8
  | .bit1AtHl => .bit 1 .atHl 12
  | .bit1A => .bit 1 (.reg .a) 8
  | .bit2B => .bit 2 (.reg .b) 8
  | .bit2C => .bit 2 (.reg .c) 8
  | .bit2D => .bit 2 (.reg .d) 8
  | .bit2E => .bit 2 (.reg .e) 8
  | .bit2H => .bit 2 (.reg .h) 8
  | .bit2L => .bit 2 (.reg .l) 8
  | .bit2AtHl => .bit 2 .atHl 12
  | .bit2A => .bit 2 (.reg .a) 8
  | .bit3B => .bit 3 (.reg .b) 8
  | .bit3C => .bit 3 (.reg .c) 8
  | .bit3D => .bit 3 (.reg .d) 8
  | .bit3E => .bit 3 (.reg .e) 8
  | .bit3H => .bit 3 (.reg .h) 8
  | .bit3L => .bit 3 (.reg .l) 8
  | .bit3AtHl => .bit 3 .atHl 12
  | .bit3A => .bit 3 (.reg .a) 8
  | .bit4B => .bit 4 (.reg .b) 8
  | .bit4C => .bit 4 (.reg .c) 8
  | .bit4D => .bit 4 (.reg .d) 8
  | .bit4E => .bit 4 (.reg .e) 8
  | .bit4H => .bit 4 (.reg .h) 8
  | .bit4L => .bit 4 (.reg .l) 8
  | .bit4AtHl => .bit 4 .atHl 12
  | .bit4A => .bit 4 (.reg .a) 8
  | .bit5B => .bit 5 (.reg .b) 8
  | .bit5C => .bit 5 (.reg .c) 8
  | .bit5D => .bit 5 (.reg .d) 8
  | .bit5E => .bit 5 (.reg .e) 8
  | .bit5H => .bit 5 (.reg .h) 8
  | .bit5L => .bit 5 (.reg .l) 8
  | .bit5AtHl => .bit 5 .atHl 12
  | .bit5A => .bit 5 (.reg .a) 8
  | .bit6B => .bit 6 (.reg .b) 8
  | .bit6C => .bit 6 (.reg .c) 8
  | .bit6D => .bit 6 (.reg .d) 8
  | .bit6E => .bit 6 (.reg .e) 8
  | .bit6H => .bit 6 (.reg .h) 8
  | .bit6L => .bit 6 (.reg .l) 8
  | .bit6AtHl => .bit 6 .atHl 12
  | .bit6A => .bit 6 (.reg .a) 8
  | .bit7B => .bit 7 (.reg .b) 8
  | .bit7C => .bit 7 (.reg .c) 8
  | .bit7D => .bit 7 (.reg .d) 8
  | .bit7E => .bit 7 (.reg .e) 8
  | .bit7H => .bit 7 (.reg .h) 8
  | .bit7L => .bit 7 (.reg .l) 8
  | .bit7AtHl => .bit 7 .atHl 12
  | .bit7A => .bit 7 (.reg .a) 8
  | .res0B => .res 0 (.reg .b) 8
  | .res0C => .res 0 (.reg .c) 8
  | .res0D => .res 0 (.reg .d) 8
  | .res0E => .res 0 (.reg .e) 8
  | .res0H => .res 0 (.reg .h) 8
  | .res0L => .res 0 (.reg .l) 8
  | .res0AtHl => .res 0 .atHl 16
  | .res0A => .res 0 (.reg .a) 8
  | .res1B => .res 1 (.reg .b) 8
  | .res1C => .res 1 (.reg .c) 8
  | .res1D => .res 1 (.reg .d) 8
  | .res1E => .res 1 (.reg .e) 8
  | .res1H => .res 1 (.reg .h) 8
  | .res1L => .res 1 (.reg .l) 8
  | .res1AtHl => .res 1 .atHl 16
  | .res1A => .res 1 (.reg .a) 8
  | .res2B => .res 2 (.reg .b) 8
  | .res2C => .res 2 (.reg .c) 8
  | .res2D => .res 2 (.reg .d) 8
  | .res2E => .res 2 (.reg .e) 8
  | .res2H => .res 2 (.reg .h) 8
  | .res2L => .res 2 (.reg .l) 8
  | .res2AtHl => .res 2 .atHl 16
  | .res2A => .res 2 (.reg .a) 8
  | .res3B => .res 3 (.reg .b) 8
  | .res3C => .res 3 (.reg .c) 8
  | .res3D => .res 3 (.reg .d) 8
  | .res3E => .res 3 (.reg .e) 8
  | .res3H => .res 3 (.reg .h) 8
  | .res3L => .res 3 (.reg .l) 8
  | .res3AtHl => .res 3 .atHl 16
  | .res3A => .res 3 (.reg .a) 8
  | .res4B => .res 4 (.reg .b) 8
  | .res4C => .res 4 (.reg .c) 8
  | .res4D => .res 4 (.reg .d) 8
  | .res4E => .res 4 (.reg .e) 8
  | .res4H => .res 4 (.reg .h) 8
  | .res4L => .res 4 (.reg .l) 8
  | .res4AtHl => .res 4 .atHl 16
  | .res4A => .res 4 (.reg .a) 8
  | .res5B => .res 5 (.reg .b) 8
  | .res5C => .res 5 (.reg .c) 8
  | .res5D => .res 5 (.reg .d) 8
  | .res5E => .res 5 (.reg .e) 8
  | .res5H => .res 5 (.reg .h) 8
  | .res5L => .res 5 (.reg .l) 8
  | .res5AtHl => .res 5 .atHl 16
  | .res5A => .res 5 (.reg .a) 8
  | .res6B => .res 6 (.reg .b) 8
  | .res6C => .res 6 (.reg .c) 8
  | .res6D => .res 6 (.reg .d) 8
  | .res6E => .res 6 (.reg .e) 8
  | .res6H => .res 6 (.reg .h) 8
  | .res6L => .res 6 (.reg .l) 8
  | .res6AtHl => .res 6 .atHl 16
  | .res6A => .res 6 (.reg .a) 8
  | .res7B => .res 7 (.reg .b) 8
  | .res7C => .res 7 (.reg .c) 8
  | .res7D => .res 7 (.reg .d) 8
  | .res7E => .res 7 (.reg .e) 8
  | .res7H => .res 7 (.reg .h) 8
  | .res7L => .res 7 (.reg .l) 8
  | .res7AtHl => .res 7 .atHl 16
  | .res7A => .res 7 (.reg .a) 8
  | .set0B => .set 0 (.reg .b) 8
  | .set0C => .set 0 (.reg .c) 8
  | .set0D => .set 0 (.reg .d) 8
  | .set0E => .set 0 (.reg .e) 8
  | .set0H => .set 0 (.reg .h) 8
  | .set0L => .set 0 (.reg .l) 8
  | .set0AtHl => .set 0 .atHl 16
  | .set0A => .set 0 (.reg .a) 8
  | .set1B => .set 1 (.reg .b) 8
  | .set1C => .set 1 (.reg .c) 8
  | .set1D => .set 1 (.reg .d) 8
  | .set1E => .set 1 (.reg .e) 8
  | .set1H => .set 1 (.reg .h) 8
  | .set1L => .set 1 (.reg .l) 8
  | .set1AtHl => .set 1 .atHl 16
  | .set1A => .set 1 (.reg .a) 8
  | .set2B => .set 2 (.reg .b) 8
  | .set2C => .set 2 (.reg .c) 8
  | .set2D => .set 2 (.reg .d) 8
  | .set2E => .set 2 (.reg .e) 8
  | .set2H => .set 2 (.reg .h) 8
  | .set2L => .set 2 (.reg .l) 8
  | .set2AtHl => .set 2 .atHl 16
  | .set2A => .set 2 (.reg .a) 8
  | .set3B => .set 3 (.reg .b) 8
  | .set3C => .set 3 (.reg .c) 8
  | .set3D => .set 3 (.reg .d) 8
  | .set3E => .set 3 (.reg .e) 8
  | .set3H => .set 3 (.reg .h) 8
  | .set3L => .set 3 (.reg .l) 8
  | .set3AtHl => .set 3 .atHl 16
  | .set3A => .set 3 (.reg .a) 8
  | .set4B => .set 4 (.reg .b) 8
  | .set4C => .set 4 (.reg .c) 8
  | .set4D => .set 4 (.reg .d) 8
  | .set4E => .set 4 (.reg .e) 8
  | .set4H => .set 4 (.reg .h) 8
  | .set4L => .set 4 (.reg .l) 8
  | .set4AtHl => .set 4 .atHl 16
  | .set4A => .set 4 (.reg .a) 8
  | .set5B => .set 5 (.reg .b) 8
  | .set5C => .set 5 (.reg .c) 8
  | .set5D => .set 5 (.reg .d) 8
  | .set5E => .set 5 (.reg .e) 8
  | .set5H => .set 5 (.reg .h) 8
  | .set5L => .set 5 (.reg .l) 8
  | .set5AtHl => .set 5 .atHl 16
  | .set5A => .set 5 (.reg .a) 8
  | .set6B => .set 6 (.reg .b) 8
  | .set6C => .set 6 (.reg .c) 8
  | .set6D => .set 6 (.reg .d) 8
  | .set6E => .set 6 (.reg .e) 8
  | .set6H => .set 6 (.reg .h) 8
  | .set6L => .set 6 (.reg .l) 8
  | .set6AtHl => .set 6 .atHl 16
  | .set6A => .set 6 (.reg .a) 8
  | .set7B => .set 7 (.reg .b) 8
  | .set7C => .set 7 (.reg .c) 8
  | .set7D => .set 7 (.reg .d) 8
  | .set7E => .set 7 (.reg .e) 8
  | .set7H => .set 7 (.reg .h) 8
  | .set7L => .set 7 (.reg .l) 8
  | .set7AtHl => .set 7 .atHl 16
  | .set7A => .set 7 (.reg .a) 8

/-- Every instruction does what its shape does, and never stops. -/
theorem exec_eq_run (i : Instr) (s : State) : exec i s = .next ((shapeOf i).run s) := by
  cases i <;> rfl

end Sys2Proof.Laws
end

