-- ==== Sys2Proof/Tests/Slice0.lean ====
section
/-! SUPPORT. The model's own tests: the checks of WellFormed refuse an ill-formed term each; every constructor's word,
written bit by bit from the encoding rules R95 and R96, decodes to it; one step on a small state for the instructions of
95_test_vectors.md, expected results taken from there; and, for every obligation with hypotheses, a witness that meets
them together. -/

namespace Sys2Proof.Tests

open Sys2Proof.Machine Sys2Proof.Claims

/-! ## WellFormed -/

/-- An opcode that is not one of the eleven (R93). -/
theorem test_wellFormed_refuses_known_opcode : Instr.wellFormed (.illegal 0x00) = false := by decide

/-- The generic spelling of SWAP A (log entry 7). -/
theorem test_wellFormed_refuses_second_spelling : Instr.wellFormed (.prefixCb 0x37) = false := by decide

theorem test_wellFormed_accepts : Instr.wellFormed (.illegal 0xD3) = true ∧ Instr.wellFormed .swapA = true := by decide

/-! ## Decoding -/

/-- The bytes are, whole, this instruction. -/
def reads (bytes : List Byte) (i : Instr) : Bool :=
  match decode .two bytes with
  | .ok (j, []) => decide (j = i)
  | _ => false

def readsAll (rows : List (List Byte × Instr)) : Bool := rows.all fun row => reads row.1 row.2

/-- R95, x = 0, z = 0: the words `00 yyy 000`, y rising. -/
theorem test_decode_x0_z0 : readsAll [
    ([0b00000000], .nop), ([0b00001000, 0x34, 0x12], .ldAtNnSp 0x1234), ([0b00010000, 0x5A], .stop),
    ([0b00011000, 0xFE], .jrRel 0xFE), ([0b00100000, 0xFE], .jrNzRel 0xFE), ([0b00101000, 0xFE], .jrZRel 0xFE),
    ([0b00110000, 0xFE], .jrNcRel 0xFE), ([0b00111000, 0xFE], .jrCRel 0xFE)] = true := by decide

/-- R95, x = 0, z = 1: the words `00 yyy 001`, y rising. -/
theorem test_decode_x0_z1 : readsAll [
    ([0b00000001, 0x34, 0x12], .ldBcNn 0x1234), ([0b00001001], .addHlBc), ([0b00010001, 0x34, 0x12], .ldDeNn 0x1234),
    ([0b00011001], .addHlDe), ([0b00100001, 0x34, 0x12], .ldHlNn 0x1234), ([0b00101001], .addHlHl),
    ([0b00110001, 0x34, 0x12], .ldSpNn 0x1234), ([0b00111001], .addHlSp)] = true := by decide

/-- R95, x = 0, z = 2: the words `00 yyy 010`, y rising. -/
theorem test_decode_x0_z2 : readsAll [
    ([0b00000010], .ldAtBcA), ([0b00001010], .ldAAtBc), ([0b00010010], .ldAtDeA),
    ([0b00011010], .ldAAtDe), ([0b00100010], .ldAtHlIncA), ([0b00101010], .ldAAtHlInc),
    ([0b00110010], .ldAtHlDecA), ([0b00111010], .ldAAtHlDec)] = true := by decide

/-- R95, x = 0, z = 3: the words `00 yyy 011`, y rising. -/
theorem test_decode_x0_z3 : readsAll [
    ([0b00000011], .incBc), ([0b00001011], .decBc), ([0b00010011], .incDe),
    ([0b00011011], .decDe), ([0b00100011], .incHl), ([0b00101011], .decHl),
    ([0b00110011], .incSp), ([0b00111011], .decSp)] = true := by decide

/-- R95, x = 0, z = 4: the words `00 yyy 100`, y rising. -/
theorem test_decode_x0_z4 : readsAll [
    ([0b00000100], .incB), ([0b00001100], .incC), ([0b00010100], .incD),
    ([0b00011100], .incE), ([0b00100100], .incH), ([0b00101100], .incL),
    ([0b00110100], .incAtHl), ([0b00111100], .incA)] = true := by decide

/-- R95, x = 0, z = 5: the words `00 yyy 101`, y rising. -/
theorem test_decode_x0_z5 : readsAll [
    ([0b00000101], .decB), ([0b00001101], .decC), ([0b00010101], .decD),
    ([0b00011101], .decE), ([0b00100101], .decH), ([0b00101101], .decL),
    ([0b00110101], .decAtHl), ([0b00111101], .decA)] = true := by decide

/-- R95, x = 0, z = 6: the words `00 yyy 110`, y rising. -/
theorem test_decode_x0_z6 : readsAll [
    ([0b00000110, 0x5A], .ldBN 0x5A), ([0b00001110, 0x5A], .ldCN 0x5A), ([0b00010110, 0x5A], .ldDN 0x5A),
    ([0b00011110, 0x5A], .ldEN 0x5A), ([0b00100110, 0x5A], .ldHN 0x5A), ([0b00101110, 0x5A], .ldLN 0x5A),
    ([0b00110110, 0x5A], .ldAtHlN 0x5A), ([0b00111110, 0x5A], .ldAN 0x5A)] = true := by decide

/-- R95, x = 0, z = 7: the words `00 yyy 111`, y rising. -/
theorem test_decode_x0_z7 : readsAll [
    ([0b00000111], .rlca), ([0b00001111], .rrca), ([0b00010111], .rla),
    ([0b00011111], .rra), ([0b00100111], .daa), ([0b00101111], .cpl),
    ([0b00110111], .scf), ([0b00111111], .ccf)] = true := by decide

/-- R95, x = 1, y = 0: the words `01 000 zzz`, z rising. -/
theorem test_decode_x1_y0 : readsAll [
    ([0b01000000], .ldBB), ([0b01000001], .ldBC), ([0b01000010], .ldBD),
    ([0b01000011], .ldBE), ([0b01000100], .ldBH), ([0b01000101], .ldBL),
    ([0b01000110], .ldBAtHl), ([0b01000111], .ldBA)] = true := by decide

/-- R95, x = 1, y = 1: the words `01 001 zzz`, z rising. -/
theorem test_decode_x1_y1 : readsAll [
    ([0b01001000], .ldCB), ([0b01001001], .ldCC), ([0b01001010], .ldCD),
    ([0b01001011], .ldCE), ([0b01001100], .ldCH), ([0b01001101], .ldCL),
    ([0b01001110], .ldCAtHl), ([0b01001111], .ldCA)] = true := by decide

/-- R95, x = 1, y = 2: the words `01 010 zzz`, z rising. -/
theorem test_decode_x1_y2 : readsAll [
    ([0b01010000], .ldDB), ([0b01010001], .ldDC), ([0b01010010], .ldDD),
    ([0b01010011], .ldDE), ([0b01010100], .ldDH), ([0b01010101], .ldDL),
    ([0b01010110], .ldDAtHl), ([0b01010111], .ldDA)] = true := by decide

/-- R95, x = 1, y = 3: the words `01 011 zzz`, z rising. -/
theorem test_decode_x1_y3 : readsAll [
    ([0b01011000], .ldEB), ([0b01011001], .ldEC), ([0b01011010], .ldED),
    ([0b01011011], .ldEE), ([0b01011100], .ldEH), ([0b01011101], .ldEL),
    ([0b01011110], .ldEAtHl), ([0b01011111], .ldEA)] = true := by decide

/-- R95, x = 1, y = 4: the words `01 100 zzz`, z rising. -/
theorem test_decode_x1_y4 : readsAll [
    ([0b01100000], .ldHB), ([0b01100001], .ldHC), ([0b01100010], .ldHD),
    ([0b01100011], .ldHE), ([0b01100100], .ldHH), ([0b01100101], .ldHL),
    ([0b01100110], .ldHAtHl), ([0b01100111], .ldHA)] = true := by decide

/-- R95, x = 1, y = 5: the words `01 101 zzz`, z rising. -/
theorem test_decode_x1_y5 : readsAll [
    ([0b01101000], .ldLB), ([0b01101001], .ldLC), ([0b01101010], .ldLD),
    ([0b01101011], .ldLE), ([0b01101100], .ldLH), ([0b01101101], .ldLL),
    ([0b01101110], .ldLAtHl), ([0b01101111], .ldLA)] = true := by decide

/-- R95, x = 1, y = 6: the words `01 110 zzz`, z rising. -/
theorem test_decode_x1_y6 : readsAll [
    ([0b01110000], .ldAtHlB), ([0b01110001], .ldAtHlC), ([0b01110010], .ldAtHlD),
    ([0b01110011], .ldAtHlE), ([0b01110100], .ldAtHlH), ([0b01110101], .ldAtHlL),
    ([0b01110110], .halt), ([0b01110111], .ldAtHlA)] = true := by decide

/-- R95, x = 1, y = 7: the words `01 111 zzz`, z rising. -/
theorem test_decode_x1_y7 : readsAll [
    ([0b01111000], .ldAB), ([0b01111001], .ldAC), ([0b01111010], .ldAD),
    ([0b01111011], .ldAE), ([0b01111100], .ldAH), ([0b01111101], .ldAL),
    ([0b01111110], .ldAAtHl), ([0b01111111], .ldAA)] = true := by decide

/-- R95, x = 2, y = 0: the words `10 000 zzz`, z rising. -/
theorem test_decode_x2_y0 : readsAll [
    ([0b10000000], .addAB), ([0b10000001], .addAC), ([0b10000010], .addAD),
    ([0b10000011], .addAE), ([0b10000100], .addAH), ([0b10000101], .addAL),
    ([0b10000110], .addAAtHl), ([0b10000111], .addAA)] = true := by decide

/-- R95, x = 2, y = 1: the words `10 001 zzz`, z rising. -/
theorem test_decode_x2_y1 : readsAll [
    ([0b10001000], .adcAB), ([0b10001001], .adcAC), ([0b10001010], .adcAD),
    ([0b10001011], .adcAE), ([0b10001100], .adcAH), ([0b10001101], .adcAL),
    ([0b10001110], .adcAAtHl), ([0b10001111], .adcAA)] = true := by decide

/-- R95, x = 2, y = 2: the words `10 010 zzz`, z rising. -/
theorem test_decode_x2_y2 : readsAll [
    ([0b10010000], .subB), ([0b10010001], .subC), ([0b10010010], .subD),
    ([0b10010011], .subE), ([0b10010100], .subH), ([0b10010101], .subL),
    ([0b10010110], .subAtHl), ([0b10010111], .subA)] = true := by decide

/-- R95, x = 2, y = 3: the words `10 011 zzz`, z rising. -/
theorem test_decode_x2_y3 : readsAll [
    ([0b10011000], .sbcAB), ([0b10011001], .sbcAC), ([0b10011010], .sbcAD),
    ([0b10011011], .sbcAE), ([0b10011100], .sbcAH), ([0b10011101], .sbcAL),
    ([0b10011110], .sbcAAtHl), ([0b10011111], .sbcAA)] = true := by decide

/-- R95, x = 2, y = 4: the words `10 100 zzz`, z rising. -/
theorem test_decode_x2_y4 : readsAll [
    ([0b10100000], .andB), ([0b10100001], .andC), ([0b10100010], .andD),
    ([0b10100011], .andE), ([0b10100100], .andH), ([0b10100101], .andL),
    ([0b10100110], .andAtHl), ([0b10100111], .andA)] = true := by decide

/-- R95, x = 2, y = 5: the words `10 101 zzz`, z rising. -/
theorem test_decode_x2_y5 : readsAll [
    ([0b10101000], .xorB), ([0b10101001], .xorC), ([0b10101010], .xorD),
    ([0b10101011], .xorE), ([0b10101100], .xorH), ([0b10101101], .xorL),
    ([0b10101110], .xorAtHl), ([0b10101111], .xorA)] = true := by decide

/-- R95, x = 2, y = 6: the words `10 110 zzz`, z rising. -/
theorem test_decode_x2_y6 : readsAll [
    ([0b10110000], .orB), ([0b10110001], .orC), ([0b10110010], .orD),
    ([0b10110011], .orE), ([0b10110100], .orH), ([0b10110101], .orL),
    ([0b10110110], .orAtHl), ([0b10110111], .orA)] = true := by decide

/-- R95, x = 2, y = 7: the words `10 111 zzz`, z rising. -/
theorem test_decode_x2_y7 : readsAll [
    ([0b10111000], .cpB), ([0b10111001], .cpC), ([0b10111010], .cpD),
    ([0b10111011], .cpE), ([0b10111100], .cpH), ([0b10111101], .cpL),
    ([0b10111110], .cpAtHl), ([0b10111111], .cpA)] = true := by decide

/-- R95, x = 3, z = 0: the words `11 yyy 000`, y rising. -/
theorem test_decode_x3_z0 : readsAll [
    ([0b11000000], .retNz), ([0b11001000], .retZ), ([0b11010000], .retNc),
    ([0b11011000], .retC), ([0b11100000, 0x5A], .ldhAtNA 0x5A), ([0b11101000, 0xFE], .addSpRel 0xFE),
    ([0b11110000, 0x5A], .ldhAAtN 0x5A), ([0b11111000, 0xFE], .ldHlSpRel 0xFE)] = true := by decide

/-- R95, x = 3, z = 1: the words `11 yyy 001`, y rising. -/
theorem test_decode_x3_z1 : readsAll [
    ([0b11000001], .popBc), ([0b11001001], .ret), ([0b11010001], .popDe),
    ([0b11011001], .reti), ([0b11100001], .popHl), ([0b11101001], .jpHl),
    ([0b11110001], .popAf), ([0b11111001], .ldSpHl)] = true := by decide

/-- R95, x = 3, z = 2: the words `11 yyy 010`, y rising. -/
theorem test_decode_x3_z2 : readsAll [
    ([0b11000010, 0x34, 0x12], .jpNzNn 0x1234), ([0b11001010, 0x34, 0x12], .jpZNn 0x1234), ([0b11010010, 0x34, 0x12], .jpNcNn 0x1234),
    ([0b11011010, 0x34, 0x12], .jpCNn 0x1234), ([0b11100010], .ldAtCA), ([0b11101010, 0x34, 0x12], .ldAtNnA 0x1234),
    ([0b11110010], .ldAAtC), ([0b11111010, 0x34, 0x12], .ldAAtNn 0x1234)] = true := by decide

/-- R95, x = 3, z = 3: the words `11 yyy 011`, y rising. -/
theorem test_decode_x3_z3 : readsAll [
    ([0b11000011, 0x34, 0x12], .jpNn 0x1234), ([0b11010011], .illegal 0b11010011), ([0b11011011], .illegal 0b11011011),
    ([0b11100011], .illegal 0b11100011), ([0b11101011], .illegal 0b11101011), ([0b11110011], .di),
    ([0b11111011], .ei)] = true := by decide

/-- R95, x = 3, z = 4: the words `11 yyy 100`, y rising. -/
theorem test_decode_x3_z4 : readsAll [
    ([0b11000100, 0x34, 0x12], .callNzNn 0x1234), ([0b11001100, 0x34, 0x12], .callZNn 0x1234), ([0b11010100, 0x34, 0x12], .callNcNn 0x1234),
    ([0b11011100, 0x34, 0x12], .callCNn 0x1234), ([0b11100100], .illegal 0b11100100), ([0b11101100], .illegal 0b11101100),
    ([0b11110100], .illegal 0b11110100), ([0b11111100], .illegal 0b11111100)] = true := by decide

/-- R95, x = 3, z = 5: the words `11 yyy 101`, y rising. -/
theorem test_decode_x3_z5 : readsAll [
    ([0b11000101], .pushBc), ([0b11001101, 0x34, 0x12], .callNn 0x1234), ([0b11010101], .pushDe),
    ([0b11011101], .illegal 0b11011101), ([0b11100101], .pushHl), ([0b11101101], .illegal 0b11101101),
    ([0b11110101], .pushAf), ([0b11111101], .illegal 0b11111101)] = true := by decide

/-- R95, x = 3, z = 6: the words `11 yyy 110`, y rising. -/
theorem test_decode_x3_z6 : readsAll [
    ([0b11000110, 0x5A], .addAN 0x5A), ([0b11001110, 0x5A], .adcAN 0x5A), ([0b11010110, 0x5A], .subN 0x5A),
    ([0b11011110, 0x5A], .sbcAN 0x5A), ([0b11100110, 0x5A], .andN 0x5A), ([0b11101110, 0x5A], .xorN 0x5A),
    ([0b11110110, 0x5A], .orN 0x5A), ([0b11111110, 0x5A], .cpN 0x5A)] = true := by decide

/-- R95, x = 3, z = 7: the words `11 yyy 111`, y rising. -/
theorem test_decode_x3_z7 : readsAll [
    ([0b11000111], .rst00h), ([0b11001111], .rst08h), ([0b11010111], .rst10h),
    ([0b11011111], .rst18h), ([0b11100111], .rst20h), ([0b11101111], .rst28h),
    ([0b11110111], .rst30h), ([0b11111111], .rst38h)] = true := by decide

/-- R96, x = 0, y = 0: CB and the words `00 000 zzz`, z rising. -/
theorem test_decode_cb_x0_y0 : readsAll [
    ([0xCB, 0b00000000], .rlcB), ([0xCB, 0b00000001], .rlcC), ([0xCB, 0b00000010], .rlcD),
    ([0xCB, 0b00000011], .rlcE), ([0xCB, 0b00000100], .rlcH), ([0xCB, 0b00000101], .rlcL),
    ([0xCB, 0b00000110], .rlcAtHl), ([0xCB, 0b00000111], .rlcA)] = true := by decide

/-- R96, x = 0, y = 1: CB and the words `00 001 zzz`, z rising. -/
theorem test_decode_cb_x0_y1 : readsAll [
    ([0xCB, 0b00001000], .rrcB), ([0xCB, 0b00001001], .rrcC), ([0xCB, 0b00001010], .rrcD),
    ([0xCB, 0b00001011], .rrcE), ([0xCB, 0b00001100], .rrcH), ([0xCB, 0b00001101], .rrcL),
    ([0xCB, 0b00001110], .rrcAtHl), ([0xCB, 0b00001111], .rrcA)] = true := by decide

/-- R96, x = 0, y = 2: CB and the words `00 010 zzz`, z rising. -/
theorem test_decode_cb_x0_y2 : readsAll [
    ([0xCB, 0b00010000], .rlB), ([0xCB, 0b00010001], .rlC), ([0xCB, 0b00010010], .rlD),
    ([0xCB, 0b00010011], .rlE), ([0xCB, 0b00010100], .rlH), ([0xCB, 0b00010101], .rlL),
    ([0xCB, 0b00010110], .rlAtHl), ([0xCB, 0b00010111], .rlA)] = true := by decide

/-- R96, x = 0, y = 3: CB and the words `00 011 zzz`, z rising. -/
theorem test_decode_cb_x0_y3 : readsAll [
    ([0xCB, 0b00011000], .rrB), ([0xCB, 0b00011001], .rrC), ([0xCB, 0b00011010], .rrD),
    ([0xCB, 0b00011011], .rrE), ([0xCB, 0b00011100], .rrH), ([0xCB, 0b00011101], .rrL),
    ([0xCB, 0b00011110], .rrAtHl), ([0xCB, 0b00011111], .rrA)] = true := by decide

/-- R96, x = 0, y = 4: CB and the words `00 100 zzz`, z rising. -/
theorem test_decode_cb_x0_y4 : readsAll [
    ([0xCB, 0b00100000], .slaB), ([0xCB, 0b00100001], .slaC), ([0xCB, 0b00100010], .slaD),
    ([0xCB, 0b00100011], .slaE), ([0xCB, 0b00100100], .slaH), ([0xCB, 0b00100101], .slaL),
    ([0xCB, 0b00100110], .slaAtHl), ([0xCB, 0b00100111], .slaA)] = true := by decide

/-- R96, x = 0, y = 5: CB and the words `00 101 zzz`, z rising. -/
theorem test_decode_cb_x0_y5 : readsAll [
    ([0xCB, 0b00101000], .sraB), ([0xCB, 0b00101001], .sraC), ([0xCB, 0b00101010], .sraD),
    ([0xCB, 0b00101011], .sraE), ([0xCB, 0b00101100], .sraH), ([0xCB, 0b00101101], .sraL),
    ([0xCB, 0b00101110], .sraAtHl), ([0xCB, 0b00101111], .sraA)] = true := by decide

/-- R96, x = 0, y = 6: CB and the words `00 110 zzz`, z rising. -/
theorem test_decode_cb_x0_y6 : readsAll [
    ([0xCB, 0b00110000], .swapB), ([0xCB, 0b00110001], .swapC), ([0xCB, 0b00110010], .swapD),
    ([0xCB, 0b00110011], .swapE), ([0xCB, 0b00110100], .swapH), ([0xCB, 0b00110101], .swapL),
    ([0xCB, 0b00110110], .swapAtHl), ([0xCB, 0b00110111], .swapA)] = true := by decide

/-- R96, x = 0, y = 7: CB and the words `00 111 zzz`, z rising. -/
theorem test_decode_cb_x0_y7 : readsAll [
    ([0xCB, 0b00111000], .srlB), ([0xCB, 0b00111001], .srlC), ([0xCB, 0b00111010], .srlD),
    ([0xCB, 0b00111011], .srlE), ([0xCB, 0b00111100], .srlH), ([0xCB, 0b00111101], .srlL),
    ([0xCB, 0b00111110], .srlAtHl), ([0xCB, 0b00111111], .srlA)] = true := by decide

/-- R96, x = 1, y = 0: CB and the words `01 000 zzz`, z rising. -/
theorem test_decode_cb_x1_y0 : readsAll [
    ([0xCB, 0b01000000], .bit0B), ([0xCB, 0b01000001], .bit0C), ([0xCB, 0b01000010], .bit0D),
    ([0xCB, 0b01000011], .bit0E), ([0xCB, 0b01000100], .bit0H), ([0xCB, 0b01000101], .bit0L),
    ([0xCB, 0b01000110], .bit0AtHl), ([0xCB, 0b01000111], .bit0A)] = true := by decide

/-- R96, x = 1, y = 1: CB and the words `01 001 zzz`, z rising. -/
theorem test_decode_cb_x1_y1 : readsAll [
    ([0xCB, 0b01001000], .bit1B), ([0xCB, 0b01001001], .bit1C), ([0xCB, 0b01001010], .bit1D),
    ([0xCB, 0b01001011], .bit1E), ([0xCB, 0b01001100], .bit1H), ([0xCB, 0b01001101], .bit1L),
    ([0xCB, 0b01001110], .bit1AtHl), ([0xCB, 0b01001111], .bit1A)] = true := by decide

/-- R96, x = 1, y = 2: CB and the words `01 010 zzz`, z rising. -/
theorem test_decode_cb_x1_y2 : readsAll [
    ([0xCB, 0b01010000], .bit2B), ([0xCB, 0b01010001], .bit2C), ([0xCB, 0b01010010], .bit2D),
    ([0xCB, 0b01010011], .bit2E), ([0xCB, 0b01010100], .bit2H), ([0xCB, 0b01010101], .bit2L),
    ([0xCB, 0b01010110], .bit2AtHl), ([0xCB, 0b01010111], .bit2A)] = true := by decide

/-- R96, x = 1, y = 3: CB and the words `01 011 zzz`, z rising. -/
theorem test_decode_cb_x1_y3 : readsAll [
    ([0xCB, 0b01011000], .bit3B), ([0xCB, 0b01011001], .bit3C), ([0xCB, 0b01011010], .bit3D),
    ([0xCB, 0b01011011], .bit3E), ([0xCB, 0b01011100], .bit3H), ([0xCB, 0b01011101], .bit3L),
    ([0xCB, 0b01011110], .bit3AtHl), ([0xCB, 0b01011111], .bit3A)] = true := by decide

/-- R96, x = 1, y = 4: CB and the words `01 100 zzz`, z rising. -/
theorem test_decode_cb_x1_y4 : readsAll [
    ([0xCB, 0b01100000], .bit4B), ([0xCB, 0b01100001], .bit4C), ([0xCB, 0b01100010], .bit4D),
    ([0xCB, 0b01100011], .bit4E), ([0xCB, 0b01100100], .bit4H), ([0xCB, 0b01100101], .bit4L),
    ([0xCB, 0b01100110], .bit4AtHl), ([0xCB, 0b01100111], .bit4A)] = true := by decide

/-- R96, x = 1, y = 5: CB and the words `01 101 zzz`, z rising. -/
theorem test_decode_cb_x1_y5 : readsAll [
    ([0xCB, 0b01101000], .bit5B), ([0xCB, 0b01101001], .bit5C), ([0xCB, 0b01101010], .bit5D),
    ([0xCB, 0b01101011], .bit5E), ([0xCB, 0b01101100], .bit5H), ([0xCB, 0b01101101], .bit5L),
    ([0xCB, 0b01101110], .bit5AtHl), ([0xCB, 0b01101111], .bit5A)] = true := by decide

/-- R96, x = 1, y = 6: CB and the words `01 110 zzz`, z rising. -/
theorem test_decode_cb_x1_y6 : readsAll [
    ([0xCB, 0b01110000], .bit6B), ([0xCB, 0b01110001], .bit6C), ([0xCB, 0b01110010], .bit6D),
    ([0xCB, 0b01110011], .bit6E), ([0xCB, 0b01110100], .bit6H), ([0xCB, 0b01110101], .bit6L),
    ([0xCB, 0b01110110], .bit6AtHl), ([0xCB, 0b01110111], .bit6A)] = true := by decide

/-- R96, x = 1, y = 7: CB and the words `01 111 zzz`, z rising. -/
theorem test_decode_cb_x1_y7 : readsAll [
    ([0xCB, 0b01111000], .bit7B), ([0xCB, 0b01111001], .bit7C), ([0xCB, 0b01111010], .bit7D),
    ([0xCB, 0b01111011], .bit7E), ([0xCB, 0b01111100], .bit7H), ([0xCB, 0b01111101], .bit7L),
    ([0xCB, 0b01111110], .bit7AtHl), ([0xCB, 0b01111111], .bit7A)] = true := by decide

/-- R96, x = 2, y = 0: CB and the words `10 000 zzz`, z rising. -/
theorem test_decode_cb_x2_y0 : readsAll [
    ([0xCB, 0b10000000], .res0B), ([0xCB, 0b10000001], .res0C), ([0xCB, 0b10000010], .res0D),
    ([0xCB, 0b10000011], .res0E), ([0xCB, 0b10000100], .res0H), ([0xCB, 0b10000101], .res0L),
    ([0xCB, 0b10000110], .res0AtHl), ([0xCB, 0b10000111], .res0A)] = true := by decide

/-- R96, x = 2, y = 1: CB and the words `10 001 zzz`, z rising. -/
theorem test_decode_cb_x2_y1 : readsAll [
    ([0xCB, 0b10001000], .res1B), ([0xCB, 0b10001001], .res1C), ([0xCB, 0b10001010], .res1D),
    ([0xCB, 0b10001011], .res1E), ([0xCB, 0b10001100], .res1H), ([0xCB, 0b10001101], .res1L),
    ([0xCB, 0b10001110], .res1AtHl), ([0xCB, 0b10001111], .res1A)] = true := by decide

/-- R96, x = 2, y = 2: CB and the words `10 010 zzz`, z rising. -/
theorem test_decode_cb_x2_y2 : readsAll [
    ([0xCB, 0b10010000], .res2B), ([0xCB, 0b10010001], .res2C), ([0xCB, 0b10010010], .res2D),
    ([0xCB, 0b10010011], .res2E), ([0xCB, 0b10010100], .res2H), ([0xCB, 0b10010101], .res2L),
    ([0xCB, 0b10010110], .res2AtHl), ([0xCB, 0b10010111], .res2A)] = true := by decide

/-- R96, x = 2, y = 3: CB and the words `10 011 zzz`, z rising. -/
theorem test_decode_cb_x2_y3 : readsAll [
    ([0xCB, 0b10011000], .res3B), ([0xCB, 0b10011001], .res3C), ([0xCB, 0b10011010], .res3D),
    ([0xCB, 0b10011011], .res3E), ([0xCB, 0b10011100], .res3H), ([0xCB, 0b10011101], .res3L),
    ([0xCB, 0b10011110], .res3AtHl), ([0xCB, 0b10011111], .res3A)] = true := by decide

/-- R96, x = 2, y = 4: CB and the words `10 100 zzz`, z rising. -/
theorem test_decode_cb_x2_y4 : readsAll [
    ([0xCB, 0b10100000], .res4B), ([0xCB, 0b10100001], .res4C), ([0xCB, 0b10100010], .res4D),
    ([0xCB, 0b10100011], .res4E), ([0xCB, 0b10100100], .res4H), ([0xCB, 0b10100101], .res4L),
    ([0xCB, 0b10100110], .res4AtHl), ([0xCB, 0b10100111], .res4A)] = true := by decide

/-- R96, x = 2, y = 5: CB and the words `10 101 zzz`, z rising. -/
theorem test_decode_cb_x2_y5 : readsAll [
    ([0xCB, 0b10101000], .res5B), ([0xCB, 0b10101001], .res5C), ([0xCB, 0b10101010], .res5D),
    ([0xCB, 0b10101011], .res5E), ([0xCB, 0b10101100], .res5H), ([0xCB, 0b10101101], .res5L),
    ([0xCB, 0b10101110], .res5AtHl), ([0xCB, 0b10101111], .res5A)] = true := by decide

/-- R96, x = 2, y = 6: CB and the words `10 110 zzz`, z rising. -/
theorem test_decode_cb_x2_y6 : readsAll [
    ([0xCB, 0b10110000], .res6B), ([0xCB, 0b10110001], .res6C), ([0xCB, 0b10110010], .res6D),
    ([0xCB, 0b10110011], .res6E), ([0xCB, 0b10110100], .res6H), ([0xCB, 0b10110101], .res6L),
    ([0xCB, 0b10110110], .res6AtHl), ([0xCB, 0b10110111], .res6A)] = true := by decide

/-- R96, x = 2, y = 7: CB and the words `10 111 zzz`, z rising. -/
theorem test_decode_cb_x2_y7 : readsAll [
    ([0xCB, 0b10111000], .res7B), ([0xCB, 0b10111001], .res7C), ([0xCB, 0b10111010], .res7D),
    ([0xCB, 0b10111011], .res7E), ([0xCB, 0b10111100], .res7H), ([0xCB, 0b10111101], .res7L),
    ([0xCB, 0b10111110], .res7AtHl), ([0xCB, 0b10111111], .res7A)] = true := by decide

/-- R96, x = 3, y = 0: CB and the words `11 000 zzz`, z rising. -/
theorem test_decode_cb_x3_y0 : readsAll [
    ([0xCB, 0b11000000], .set0B), ([0xCB, 0b11000001], .set0C), ([0xCB, 0b11000010], .set0D),
    ([0xCB, 0b11000011], .set0E), ([0xCB, 0b11000100], .set0H), ([0xCB, 0b11000101], .set0L),
    ([0xCB, 0b11000110], .set0AtHl), ([0xCB, 0b11000111], .set0A)] = true := by decide

/-- R96, x = 3, y = 1: CB and the words `11 001 zzz`, z rising. -/
theorem test_decode_cb_x3_y1 : readsAll [
    ([0xCB, 0b11001000], .set1B), ([0xCB, 0b11001001], .set1C), ([0xCB, 0b11001010], .set1D),
    ([0xCB, 0b11001011], .set1E), ([0xCB, 0b11001100], .set1H), ([0xCB, 0b11001101], .set1L),
    ([0xCB, 0b11001110], .set1AtHl), ([0xCB, 0b11001111], .set1A)] = true := by decide

/-- R96, x = 3, y = 2: CB and the words `11 010 zzz`, z rising. -/
theorem test_decode_cb_x3_y2 : readsAll [
    ([0xCB, 0b11010000], .set2B), ([0xCB, 0b11010001], .set2C), ([0xCB, 0b11010010], .set2D),
    ([0xCB, 0b11010011], .set2E), ([0xCB, 0b11010100], .set2H), ([0xCB, 0b11010101], .set2L),
    ([0xCB, 0b11010110], .set2AtHl), ([0xCB, 0b11010111], .set2A)] = true := by decide

/-- R96, x = 3, y = 3: CB and the words `11 011 zzz`, z rising. -/
theorem test_decode_cb_x3_y3 : readsAll [
    ([0xCB, 0b11011000], .set3B), ([0xCB, 0b11011001], .set3C), ([0xCB, 0b11011010], .set3D),
    ([0xCB, 0b11011011], .set3E), ([0xCB, 0b11011100], .set3H), ([0xCB, 0b11011101], .set3L),
    ([0xCB, 0b11011110], .set3AtHl), ([0xCB, 0b11011111], .set3A)] = true := by decide

/-- R96, x = 3, y = 4: CB and the words `11 100 zzz`, z rising. -/
theorem test_decode_cb_x3_y4 : readsAll [
    ([0xCB, 0b11100000], .set4B), ([0xCB, 0b11100001], .set4C), ([0xCB, 0b11100010], .set4D),
    ([0xCB, 0b11100011], .set4E), ([0xCB, 0b11100100], .set4H), ([0xCB, 0b11100101], .set4L),
    ([0xCB, 0b11100110], .set4AtHl), ([0xCB, 0b11100111], .set4A)] = true := by decide

/-- R96, x = 3, y = 5: CB and the words `11 101 zzz`, z rising. -/
theorem test_decode_cb_x3_y5 : readsAll [
    ([0xCB, 0b11101000], .set5B), ([0xCB, 0b11101001], .set5C), ([0xCB, 0b11101010], .set5D),
    ([0xCB, 0b11101011], .set5E), ([0xCB, 0b11101100], .set5H), ([0xCB, 0b11101101], .set5L),
    ([0xCB, 0b11101110], .set5AtHl), ([0xCB, 0b11101111], .set5A)] = true := by decide

/-- R96, x = 3, y = 6: CB and the words `11 110 zzz`, z rising. -/
theorem test_decode_cb_x3_y6 : readsAll [
    ([0xCB, 0b11110000], .set6B), ([0xCB, 0b11110001], .set6C), ([0xCB, 0b11110010], .set6D),
    ([0xCB, 0b11110011], .set6E), ([0xCB, 0b11110100], .set6H), ([0xCB, 0b11110101], .set6L),
    ([0xCB, 0b11110110], .set6AtHl), ([0xCB, 0b11110111], .set6A)] = true := by decide

/-- R96, x = 3, y = 7: CB and the words `11 111 zzz`, z rising. -/
theorem test_decode_cb_x3_y7 : readsAll [
    ([0xCB, 0b11111000], .set7B), ([0xCB, 0b11111001], .set7C), ([0xCB, 0b11111010], .set7D),
    ([0xCB, 0b11111011], .set7E), ([0xCB, 0b11111100], .set7H), ([0xCB, 0b11111101], .set7L),
    ([0xCB, 0b11111110], .set7AtHl), ([0xCB, 0b11111111], .set7A)] = true := by decide

/-! ## One step -/

/-- The state the vectors of 95_test_vectors.md start from: everything as after reset, but SP, PC and the latch. -/
def base : State :=
  { State.resetZero { params := Params.default, initMem := [], bootRom := Vector.replicate 256 0 } with
    sp := 0xFFFE, pc := 0x0200, mem := [(0xFF50, 0x01)] }

/-- Bytes written over a state's memory. -/
def withBytes (s : State) (cells : List (Nat × Byte)) : State :=
  { s with mem := cells.foldl (fun m c => Memory.write m c.1 c.2) s.mem }

/-- What `g` reads of the state one step after the instruction bytes are placed at PC. -/
def ran {α : Type} (cells : List (Nat × Byte)) (bytes : List Byte) (s : State) (g : State → α) : Option α :=
  match step ((withBytes s cells).placeBytes s.pc bytes) with
  | .next t => some (g t)
  | _ => none

/-- STOP, R121 (95_test_vectors.md V41.2). -/
theorem test_V41_2 :
    ran [] [0x10, 0x00] base (fun t => (t.f, t.pc, t.totalCycles, t.mode)) =
      some (0x00, 0x0202, 4, .stopped) := by decide

/-- HALT, R122 (95_test_vectors.md V41.4). -/
theorem test_V41_4 :
    ran [] [0x76] base (fun t => (t.f, t.pc, t.totalCycles, t.mode)) =
      some (0x00, 0x0201, 4, .halted) := by decide

/-- HALT, R122 (95_test_vectors.md V41.5). -/
theorem test_V41_5 :
    ran [(0xFFFF, 0x01), (0xFF0F, 0x01)] [0x76] ({ base with ime := true }) (fun t => (t.pc, t.totalCycles, t.sp, t.ime, t.memRead 0xFF0F, t.memRead 0xFFFC)) =
      some (0x0040, 24, 0xFFFC, false, 0x00, 0x01) := by decide

/-- DI, R123 (95_test_vectors.md V41.10). -/
theorem test_V41_10 :
    ran [] [0xF3] ({ base with eiPending := .armed, cfg := { base.cfg with eiDelay := .one } }) (fun t => (t.f, t.pc, t.totalCycles, t.eiPending)) =
      some (0x00, 0x0201, 4, .none) := by decide

/-- EI, R124 (95_test_vectors.md V41.13). -/
theorem test_V41_13 :
    ran [] [0xFB] ({ base with eiPending := .armed, cfg := { base.cfg with eiDelay := .one } }) (fun t => (t.f, t.pc, t.totalCycles, t.eiPending)) =
      some (0x00, 0x0201, 4, .ready) := by decide

/-- EI, R124 (95_test_vectors.md V41.14). -/
theorem test_V41_14 :
    ran [(0xFFFF, 0x01), (0xFF0F, 0x01)] [0xFB] base (fun t => (t.pc, t.totalCycles, t.sp, t.memRead 0xFF0F, t.memRead 0xFFFC, t.memRead 0xFFFD)) =
      some (0x0040, 24, 0xFFFC, 0x00, 0x01, 0x02) := by decide

/-- ILLEGAL, R126 (95_test_vectors.md V41.15). -/
theorem test_V41_15 :
    ran [] [0xD3] base (fun t => (t.f, t.pc, t.totalCycles, t.mode)) =
      some (0x00, 0x0201, 0, .fault 0xD3 0x0200) := by decide

/-- SWAP A, R257 (95_test_vectors.md V41.17). -/
theorem test_V41_17 :
    ran [] [0xCB, 0x37] ({ base with a := 0xF0 }) (fun t => (t.f, t.pc, t.totalCycles, t.a)) =
      some (0x00, 0x0202, 8, 0x0F) := by decide

/-- LD A,B, R141 (95_test_vectors.md V42.1). -/
theorem test_V42_1 :
    ran [] [0x78] ({ base with b := 0x12 }) (fun t => (t.f, t.pc, t.totalCycles, t.a)) =
      some (0x00, 0x0201, 4, 0x12) := by decide

/-- LD A,n, R142 (95_test_vectors.md V42.3). -/
theorem test_V42_3 :
    ran [] [0x3E, 0x5A] base (fun t => (t.f, t.pc, t.totalCycles, t.a)) =
      some (0x00, 0x0202, 8, 0x5A) := by decide

/-- LD A,(HL), R143 (95_test_vectors.md V42.4). -/
theorem test_V42_4 :
    ran [(0xC000, 0x77)] [0x7E] ({ base with h := 0xC0, l := 0x00 }) (fun t => (t.f, t.pc, t.totalCycles, t.a)) =
      some (0x00, 0x0201, 8, 0x77) := by decide

/-- LD (HL),H, R144 (95_test_vectors.md V42.5). -/
theorem test_V42_5 :
    ran [] [0x74] ({ base with h := 0xC0, l := 0x12 }) (fun t => (t.f, t.pc, t.totalCycles, t.memRead 0xC012)) =
      some (0x00, 0x0201, 8, 0xC0) := by decide

/-- LD (HL),n, R145 (95_test_vectors.md V42.6). -/
theorem test_V42_6 :
    ran [] [0x36, 0x99] ({ base with h := 0xC0, l := 0x10 }) (fun t => (t.f, t.pc, t.totalCycles, t.memRead 0xC010)) =
      some (0x00, 0x0202, 12, 0x99) := by decide

/-- LD A,(BC), R146 (95_test_vectors.md V42.7). -/
theorem test_V42_7 :
    ran [(0xC100, 0x01)] [0x0A] ({ base with b := 0xC1, c := 0x00 }) (fun t => (t.f, t.pc, t.totalCycles, t.a)) =
      some (0x00, 0x0201, 8, 0x01) := by decide

/-- LD A,(DE), R147 (95_test_vectors.md V42.8). -/
theorem test_V42_8 :
    ran [(0xC200, 0x02)] [0x1A] ({ base with d := 0xC2, e := 0x00 }) (fun t => (t.f, t.pc, t.totalCycles, t.a)) =
      some (0x00, 0x0201, 8, 0x02) := by decide

/-- LD (BC),A, R148 (95_test_vectors.md V42.9). -/
theorem test_V42_9 :
    ran [] [0x02] ({ base with b := 0xC1, c := 0x00, a := 0x11 }) (fun t => (t.f, t.pc, t.totalCycles, t.memRead 0xC100)) =
      some (0x00, 0x0201, 8, 0x11) := by decide

/-- LD (DE),A, R149 (95_test_vectors.md V42.10). -/
theorem test_V42_10 :
    ran [] [0x12] ({ base with d := 0xC2, e := 0x00, a := 0x22 }) (fun t => (t.f, t.pc, t.totalCycles, t.memRead 0xC200)) =
      some (0x00, 0x0201, 8, 0x22) := by decide

/-- LD A,(nn), R150 (95_test_vectors.md V42.11). -/
theorem test_V42_11 :
    ran [(0xC000, 0x5C)] [0xFA, 0x00, 0xC0] base (fun t => (t.f, t.pc, t.totalCycles, t.a)) =
      some (0x00, 0x0203, 16, 0x5C) := by decide

/-- LD (nn),A, R151 (95_test_vectors.md V42.12). -/
theorem test_V42_12 :
    ran [] [0xEA, 0x00, 0xC0] ({ base with a := 0x3C }) (fun t => (t.f, t.pc, t.totalCycles, t.memRead 0xC000)) =
      some (0x00, 0x0203, 16, 0x3C) := by decide

/-- LDH A,(n), R152 (95_test_vectors.md V42.13). -/
theorem test_V42_13 :
    ran [(0xFF0F, 0x04)] [0xF0, 0x0F] base (fun t => (t.f, t.pc, t.totalCycles, t.a)) =
      some (0x00, 0x0202, 12, 0x04) := by decide

/-- LDH (n),A, R153 (95_test_vectors.md V42.14). -/
theorem test_V42_14 :
    ran [] [0xE0, 0xFF] ({ base with a := 0x1F }) (fun t => (t.f, t.pc, t.totalCycles, t.memRead 0xFFFF)) =
      some (0x00, 0x0202, 12, 0x1F) := by decide

/-- LD A,(C), R154 (95_test_vectors.md V42.15). -/
theorem test_V42_15 :
    ran [(0xFF0F, 0x01)] [0xF2] ({ base with c := 0x0F }) (fun t => (t.f, t.pc, t.totalCycles, t.a)) =
      some (0x00, 0x0201, 8, 0x01) := by decide

/-- LD (C),A, R155 (95_test_vectors.md V42.16). -/
theorem test_V42_16 :
    ran [] [0xE2] ({ base with c := 0x80, a := 0x07 }) (fun t => (t.f, t.pc, t.totalCycles, t.memRead 0xFF80)) =
      some (0x00, 0x0201, 8, 0x07) := by decide

/-- LD (HL+),A, R156 (95_test_vectors.md V42.18). -/
theorem test_V42_18 :
    ran [] [0x22] ({ base with h := 0xFF, l := 0xFF, a := 0x01 }) (fun t => (t.f, t.pc, t.totalCycles, t.h, t.l, t.memRead 0xFFFF)) =
      some (0x00, 0x0201, 8, 0x00, 0x00, 0x01) := by decide

/-- LD (HL-),A, R157 (95_test_vectors.md V42.19). -/
theorem test_V42_19 :
    ran [] [0x32] ({ base with h := 0x00, l := 0x00, a := 0x01 }) (fun t => (t.f, t.pc, t.totalCycles, t.h, t.l, t.memRead 0x0000)) =
      some (0x00, 0x0201, 8, 0xFF, 0xFF, 0x01) := by decide

/-- LD A,(HL+), R158 (95_test_vectors.md V42.20). -/
theorem test_V42_20 :
    ran [(0xC000, 0x42)] [0x2A] ({ base with h := 0xC0, l := 0x00 }) (fun t => (t.f, t.pc, t.totalCycles, t.a, t.l)) =
      some (0x00, 0x0201, 8, 0x42, 0x01) := by decide

/-- LD A,(HL-), R159 (95_test_vectors.md V42.21). -/
theorem test_V42_21 :
    ran [(0xC000, 0x42)] [0x3A] ({ base with h := 0xC0, l := 0x00 }) (fun t => (t.f, t.pc, t.totalCycles, t.a, t.h, t.l)) =
      some (0x00, 0x0201, 8, 0x42, 0xBF, 0xFF) := by decide

/-- LD SP,nn, R171 (95_test_vectors.md V43.1). -/
theorem test_V43_1 :
    ran [] [0x31, 0xFE, 0xFF] ({ base with sp := 0x0000 }) (fun t => (t.f, t.pc, t.totalCycles, t.sp)) =
      some (0x00, 0x0203, 12, 0xFFFE) := by decide

/-- LD (nn),SP, R172 (95_test_vectors.md V43.3). -/
theorem test_V43_3 :
    ran [] [0x08, 0x00, 0xC0] ({ base with sp := 0xFFF8 }) (fun t => (t.f, t.pc, t.totalCycles, t.memRead 0xC000, t.memRead 0xC001)) =
      some (0x00, 0x0203, 20, 0xF8, 0xFF) := by decide

/-- LD SP,HL, R173 (95_test_vectors.md V43.4). -/
theorem test_V43_4 :
    ran [] [0xF9] ({ base with h := 0xDF, l := 0xFF }) (fun t => (t.f, t.pc, t.totalCycles, t.sp)) =
      some (0x00, 0x0201, 8, 0xDFFF) := by decide

/-- LD HL,SP+e, R174 (95_test_vectors.md V43.6). -/
theorem test_V43_6 :
    ran [] [0xF8, 0xFE] ({ base with sp := 0x0001 }) (fun t => (t.f, t.pc, t.totalCycles, t.h, t.l)) =
      some (0x00, 0x0202, 12, 0xFF, 0xFF) := by decide

/-- PUSH AF, R176 (95_test_vectors.md V43.10). -/
theorem test_V43_10 :
    ran [] [0xF5] ({ base with a := 0x12, f := 0xB0 }) (fun t => (t.f, t.pc, t.totalCycles, t.sp, t.memRead 0xFFFC, t.memRead 0xFFFD)) =
      some (0xB0, 0x0201, 16, 0xFFFC, 0xB0, 0x12) := by decide

/-- PUSH BC, R175 (95_test_vectors.md V43.11). -/
theorem test_V43_11 :
    ran [] [0xC5] ({ base with sp := 0x0001, b := 0xAB, c := 0xCD }) (fun t => (t.f, t.pc, t.totalCycles, t.sp, t.memRead 0x0000, t.memRead 0xFFFF)) =
      some (0x00, 0x0201, 16, 0xFFFF, 0xAB, 0xCD) := by decide

/-- POP AF, R178 (95_test_vectors.md V43.13). -/
theorem test_V43_13 :
    ran [(0xFFFC, 0xFF), (0xFFFD, 0x12)] [0xF1] ({ base with sp := 0xFFFC }) (fun t => (t.f, t.pc, t.totalCycles, t.a, t.sp)) =
      some (0xF0, 0x0201, 12, 0x12, 0xFFFE) := by decide

/-- POP DE, R177 (95_test_vectors.md V43.15). -/
theorem test_V43_15 :
    ran [(0xFFFF, 0x34), (0x0000, 0x12)] [0xD1] ({ base with sp := 0xFFFF }) (fun t => (t.f, t.pc, t.totalCycles, t.d, t.e, t.sp)) =
      some (0x00, 0x0201, 12, 0x12, 0x34, 0x0001) := by decide

/-- ADD A,B, R191 (95_test_vectors.md V44.1). -/
theorem test_V44_1 :
    ran [] [0x80] ({ base with a := 0x3A, b := 0xC6 }) (fun t => (t.f, t.pc, t.totalCycles, t.a)) =
      some (0xB0, 0x0201, 4, 0x00) := by decide

/-- ADC A,B, R194 (95_test_vectors.md V44.7). -/
theorem test_V44_7 :
    ran [] [0x88] ({ base with a := 0x12, b := 0xFF, f := 0x10 }) (fun t => (t.f, t.pc, t.totalCycles)) =
      some (0x30, 0x0201, 4) := by decide

/-- ADC A,(HL), R195 (95_test_vectors.md V44.8). -/
theorem test_V44_8 :
    ran [(0xC000, 0x1E)] [0x8E] ({ base with a := 0xE1, h := 0xC0, l := 0x00, f := 0x10 }) (fun t => (t.f, t.pc, t.totalCycles, t.a)) =
      some (0xB0, 0x0201, 8, 0x00) := by decide

/-- ADC A,n, R196 (95_test_vectors.md V44.9). -/
theorem test_V44_9 :
    ran [] [0xCE, 0x3B] ({ base with a := 0xE1, f := 0x10 }) (fun t => (t.f, t.pc, t.totalCycles, t.a)) =
      some (0x10, 0x0202, 8, 0x1D) := by decide

/-- SUB (HL), R198 (95_test_vectors.md V44.13). -/
theorem test_V44_13 :
    ran [(0xC000, 0x40)] [0x96] ({ base with a := 0x3E, h := 0xC0, l := 0x00 }) (fun t => (t.f, t.pc, t.totalCycles, t.a)) =
      some (0x50, 0x0201, 8, 0xFE) := by decide

/-- SBC A,(HL), R201 (95_test_vectors.md V44.15). -/
theorem test_V44_15 :
    ran [(0xC000, 0x4F)] [0x9E] ({ base with a := 0x3B, h := 0xC0, l := 0x00, f := 0x10 }) (fun t => (t.f, t.pc, t.totalCycles, t.a)) =
      some (0x70, 0x0201, 8, 0xEB) := by decide

/-- SBC A,B, R200 (95_test_vectors.md V44.19). -/
theorem test_V44_19 :
    ran [] [0x98] ({ base with a := 0x00, b := 0xFF, f := 0x10 }) (fun t => (t.f, t.pc, t.totalCycles)) =
      some (0xF0, 0x0201, 4) := by decide

/-- SBC A,B, R200 (95_test_vectors.md V44.20). -/
theorem test_V44_20 :
    ran [] [0x98] ({ base with a := 0x00, b := 0xFF, f := 0x10, cfg := { base.cfg with subHalfReading := .nibbleOfSum } }) (fun t => (t.f, t.pc, t.totalCycles)) =
      some (0xD0, 0x0201, 4) := by decide

/-- AND B, R203 (95_test_vectors.md V44.22). -/
theorem test_V44_22 :
    ran [] [0xA0] ({ base with a := 0x5A, b := 0x3F }) (fun t => (t.f, t.pc, t.totalCycles, t.a)) =
      some (0x20, 0x0201, 4, 0x1A) := by decide

/-- XOR A, R206 (95_test_vectors.md V44.25). -/
theorem test_V44_25 :
    ran [] [0xAF] ({ base with a := 0x5A, f := 0xF0 }) (fun t => (t.f, t.pc, t.totalCycles, t.a)) =
      some (0x80, 0x0201, 4, 0x00) := by decide

/-- OR B, R209 (95_test_vectors.md V44.27). -/
theorem test_V44_27 :
    ran [] [0xB0] ({ base with a := 0x00, b := 0x00, f := 0x70 }) (fun t => (t.f, t.pc, t.totalCycles)) =
      some (0x80, 0x0201, 4) := by decide

/-- CP B, R212 (95_test_vectors.md V44.29). -/
theorem test_V44_29 :
    ran [] [0xB8] ({ base with a := 0x3C, b := 0x2F }) (fun t => (t.f, t.pc, t.totalCycles)) =
      some (0x60, 0x0201, 4) := by decide

/-- INC A, R215 (95_test_vectors.md V44.33). -/
theorem test_V44_33 :
    ran [] [0x3C] ({ base with a := 0x0F, f := 0x10 }) (fun t => (t.f, t.pc, t.totalCycles, t.a)) =
      some (0x30, 0x0201, 4, 0x10) := by decide

/-- INC (HL), R216 (95_test_vectors.md V44.36). -/
theorem test_V44_36 :
    ran [(0xC000, 0xFF)] [0x34] ({ base with h := 0xC0, l := 0x00, f := 0x10 }) (fun t => (t.f, t.pc, t.totalCycles, t.memRead 0xC000)) =
      some (0xB0, 0x0201, 12, 0x00) := by decide

/-- DEC B, R217 (95_test_vectors.md V44.38). -/
theorem test_V44_38 :
    ran [] [0x05] ({ base with b := 0x00, f := 0x10 }) (fun t => (t.f, t.pc, t.totalCycles, t.b)) =
      some (0x70, 0x0201, 4, 0xFF) := by decide

/-- DEC (HL), R218 (95_test_vectors.md V44.40). -/
theorem test_V44_40 :
    ran [(0xC000, 0x00)] [0x35] ({ base with h := 0xC0, l := 0x00 }) (fun t => (t.f, t.pc, t.totalCycles, t.memRead 0xC000)) =
      some (0x60, 0x0201, 12, 0xFF) := by decide

/-- DAA, R219 (95_test_vectors.md V44.42). -/
theorem test_V44_42 :
    ran [] [0x27] ({ base with a := 0x9A }) (fun t => (t.f, t.pc, t.totalCycles, t.a)) =
      some (0x90, 0x0201, 4, 0x00) := by decide

/-- DAA, R219 (95_test_vectors.md V44.45). -/
theorem test_V44_45 :
    ran [] [0x27] ({ base with a := 0x4B, f := 0x60 }) (fun t => (t.f, t.pc, t.totalCycles, t.a)) =
      some (0x40, 0x0201, 4, 0x45) := by decide

/-- CPL, R220 (95_test_vectors.md V44.48). -/
theorem test_V44_48 :
    ran [] [0x2F] ({ base with a := 0x35 }) (fun t => (t.f, t.pc, t.totalCycles, t.a)) =
      some (0x60, 0x0201, 4, 0xCA) := by decide

/-- SCF, R221 (95_test_vectors.md V44.49). -/
theorem test_V44_49 :
    ran [] [0x37] ({ base with f := 0xE0 }) (fun t => (t.f, t.pc, t.totalCycles)) =
      some (0x90, 0x0201, 4) := by decide

/-- CCF, R222 (95_test_vectors.md V44.50). -/
theorem test_V44_50 :
    ran [] [0x3F] ({ base with f := 0x10 }) (fun t => (t.f, t.pc, t.totalCycles)) =
      some (0x00, 0x0201, 4) := by decide

/-- ADD HL,DE, R230 (95_test_vectors.md V45.1). -/
theorem test_V45_1 :
    ran [] [0x19] ({ base with h := 0x00, l := 0xFF, d := 0x00, e := 0x01 }) (fun t => (t.f, t.pc, t.totalCycles, t.h, t.l)) =
      some (0x20, 0x0201, 8, 0x01, 0x00) := by decide

/-- ADD HL,HL, R230 (95_test_vectors.md V45.7). -/
theorem test_V45_7 :
    ran [] [0x29] ({ base with h := 0x80, l := 0x00, f := 0x80, cfg := { base.cfg with flag16Mode := .lr35902 } }) (fun t => (t.f, t.pc, t.totalCycles, t.h)) =
      some (0x90, 0x0201, 8, 0x00) := by decide

/-- INC BC, R231 (95_test_vectors.md V45.9). -/
theorem test_V45_9 :
    ran [] [0x03] ({ base with b := 0x00, c := 0xFF, f := 0xF0 }) (fun t => (t.f, t.pc, t.totalCycles, t.b, t.c)) =
      some (0xF0, 0x0201, 8, 0x01, 0x00) := by decide

/-- DEC DE, R232 (95_test_vectors.md V45.11). -/
theorem test_V45_11 :
    ran [] [0x1B] ({ base with d := 0x00, e := 0x00 }) (fun t => (t.f, t.pc, t.totalCycles, t.d, t.e)) =
      some (0x00, 0x0201, 8, 0xFF, 0xFF) := by decide

/-- ADD SP,e, R233 (95_test_vectors.md V45.14). -/
theorem test_V45_14 :
    ran [] [0xE8, 0x08] ({ base with sp := 0xFFF8, cfg := { base.cfg with flag16Mode := .lr35902 } }) (fun t => (t.f, t.pc, t.totalCycles, t.sp)) =
      some (0x30, 0x0202, 16, 0x0000) := by decide

/-- ADD SP,e, R233 (95_test_vectors.md V45.15). -/
theorem test_V45_15 :
    ran [] [0xE8, 0xFE] ({ base with sp := 0xD000 }) (fun t => (t.f, t.pc, t.totalCycles, t.sp)) =
      some (0x10, 0x0202, 16, 0xCFFE) := by decide

/-- RLCA, R240 (95_test_vectors.md V46.1). -/
theorem test_V46_1 :
    ran [] [0x07] ({ base with a := 0x85 }) (fun t => (t.f, t.pc, t.totalCycles, t.a)) =
      some (0x10, 0x0201, 4, 0x0B) := by decide

/-- RRCA, R241 (95_test_vectors.md V46.3). -/
theorem test_V46_3 :
    ran [] [0x0F] ({ base with a := 0x3B }) (fun t => (t.f, t.pc, t.totalCycles, t.a)) =
      some (0x10, 0x0201, 4, 0x9D) := by decide

/-- RLA, R242 (95_test_vectors.md V46.4). -/
theorem test_V46_4 :
    ran [] [0x17] ({ base with a := 0x95, f := 0x10 }) (fun t => (t.f, t.pc, t.totalCycles, t.a)) =
      some (0x10, 0x0201, 4, 0x2B) := by decide

/-- RRA, R243 (95_test_vectors.md V46.6). -/
theorem test_V46_6 :
    ran [] [0x1F] ({ base with a := 0x81 }) (fun t => (t.f, t.pc, t.totalCycles, t.a)) =
      some (0x10, 0x0201, 4, 0x40) := by decide

/-- RLC B, R245 (95_test_vectors.md V46.7). -/
theorem test_V46_7 :
    ran [] [0xCB, 0x00] ({ base with b := 0x85 }) (fun t => (t.f, t.pc, t.totalCycles, t.b)) =
      some (0x10, 0x0202, 8, 0x0B) := by decide

/-- RRC (HL), R248 (95_test_vectors.md V46.11). -/
theorem test_V46_11 :
    ran [(0xC000, 0x10)] [0xCB, 0x0E] ({ base with h := 0xC0, l := 0x00 }) (fun t => (t.f, t.pc, t.totalCycles, t.memRead 0xC000)) =
      some (0x00, 0x0202, 16, 0x08) := by decide

/-- RL L, R249 (95_test_vectors.md V46.12). -/
theorem test_V46_12 :
    ran [] [0xCB, 0x15] ({ base with l := 0x80 }) (fun t => (t.f, t.pc, t.totalCycles, t.l)) =
      some (0x90, 0x0202, 8, 0x00) := by decide

/-- RR (HL), R252 (95_test_vectors.md V46.15). -/
theorem test_V46_15 :
    ran [(0xC000, 0x00)] [0xCB, 0x1E] ({ base with h := 0xC0, l := 0x00, f := 0x10 }) (fun t => (t.f, t.pc, t.totalCycles, t.memRead 0xC000)) =
      some (0x00, 0x0202, 16, 0x80) := by decide

/-- SLA D, R253 (95_test_vectors.md V46.16). -/
theorem test_V46_16 :
    ran [] [0xCB, 0x22] ({ base with d := 0x80 }) (fun t => (t.f, t.pc, t.totalCycles, t.d)) =
      some (0x90, 0x0202, 8, 0x00) := by decide

/-- SRA A, R255 (95_test_vectors.md V46.18). -/
theorem test_V46_18 :
    ran [] [0xCB, 0x2F] ({ base with a := 0x81 }) (fun t => (t.f, t.pc, t.totalCycles, t.a)) =
      some (0x10, 0x0202, 8, 0xC0) := by decide

/-- SWAP A, R257 (95_test_vectors.md V46.21). -/
theorem test_V46_21 :
    ran [] [0xCB, 0x37] ({ base with a := 0xF0, f := 0x10 }) (fun t => (t.f, t.pc, t.totalCycles, t.a)) =
      some (0x00, 0x0202, 8, 0x0F) := by decide

/-- SRL (HL), R260 (95_test_vectors.md V46.25). -/
theorem test_V46_25 :
    ran [(0xC000, 0x80)] [0xCB, 0x3E] ({ base with h := 0xC0, l := 0x00 }) (fun t => (t.f, t.pc, t.totalCycles, t.memRead 0xC000)) =
      some (0x00, 0x0202, 16, 0x40) := by decide

/-- BIT 7,A, R261 (95_test_vectors.md V46.27). -/
theorem test_V46_27 :
    ran [] [0xCB, 0x7F] ({ base with a := 0x7F, f := 0x10 }) (fun t => (t.f, t.pc, t.totalCycles)) =
      some (0xB0, 0x0202, 8) := by decide

/-- BIT 0,(HL), R262 (95_test_vectors.md V46.28). -/
theorem test_V46_28 :
    ran [(0xC000, 0xFE)] [0xCB, 0x46] ({ base with h := 0xC0, l := 0x00 }) (fun t => (t.f, t.pc, t.totalCycles)) =
      some (0xA0, 0x0202, 12) := by decide

/-- RES 3,(HL), R264 (95_test_vectors.md V46.30). -/
theorem test_V46_30 :
    ran [(0xC000, 0xFF)] [0xCB, 0x9E] ({ base with h := 0xC0, l := 0x00 }) (fun t => (t.f, t.pc, t.totalCycles, t.memRead 0xC000)) =
      some (0x00, 0x0202, 16, 0xF7) := by decide

/-- SET 7,(HL), R266 (95_test_vectors.md V46.32). -/
theorem test_V46_32 :
    ran [(0xC000, 0x00)] [0xCB, 0xFE] ({ base with h := 0xC0, l := 0x00 }) (fun t => (t.f, t.pc, t.totalCycles, t.memRead 0xC000)) =
      some (0x00, 0x0202, 16, 0x80) := by decide

/-- JP C,nn, R272 (95_test_vectors.md V47.2). -/
theorem test_V47_2 :
    ran [] [0xDA, 0x00, 0x30] ({ base with f := 0x10 }) (fun t => (t.f, t.pc, t.totalCycles)) =
      some (0x10, 0x3000, 16) := by decide

/-- JP NZ,nn, R272 (95_test_vectors.md V47.4). -/
theorem test_V47_4 :
    ran [] [0xC2, 0x00, 0x30] ({ base with f := 0x80 }) (fun t => (t.f, t.pc, t.totalCycles)) =
      some (0x80, 0x0203, 12) := by decide

/-- JP HL, R273 (95_test_vectors.md V47.5). -/
theorem test_V47_5 :
    ran [] [0xE9] ({ base with h := 0x40, l := 0x00 }) (fun t => (t.f, t.pc, t.totalCycles)) =
      some (0x00, 0x4000, 4) := by decide

/-- JR e, R274 (95_test_vectors.md V47.8). -/
theorem test_V47_8 :
    ran [] [0x18, 0x80] base (fun t => (t.f, t.pc, t.totalCycles)) =
      some (0x00, 0x0182, 12) := by decide

/-- JR NZ,e, R275 (95_test_vectors.md V47.9). -/
theorem test_V47_9 :
    ran [] [0x20, 0x05] ({ base with f := 0x80 }) (fun t => (t.f, t.pc, t.totalCycles)) =
      some (0x80, 0x0202, 8) := by decide

/-- JR NZ,e, R275 (95_test_vectors.md V47.11). -/
theorem test_V47_11 :
    ran [] [0x20, 0xFB] base (fun t => (t.f, t.pc, t.totalCycles)) =
      some (0x00, 0x01FD, 12) := by decide

/-- CALL nn, R276 (95_test_vectors.md V47.15). -/
theorem test_V47_15 :
    ran [] [0xCD, 0x34, 0x12] ({ base with pc := 0x0150 }) (fun t => (t.f, t.pc, t.totalCycles, t.sp, t.memRead 0xFFFC, t.memRead 0xFFFD)) =
      some (0x00, 0x1234, 24, 0xFFFC, 0x53, 0x01) := by decide

/-- CALL Z,nn, R277 (95_test_vectors.md V47.17). -/
theorem test_V47_17 :
    ran [] [0xCC, 0x34, 0x12] ({ base with f := 0x80 }) (fun t => (t.f, t.pc, t.totalCycles, t.sp, t.memRead 0xFFFC, t.memRead 0xFFFD)) =
      some (0x80, 0x1234, 24, 0xFFFC, 0x03, 0x02) := by decide

/-- CALL NZ,nn, R277 (95_test_vectors.md V47.16). -/
theorem test_V47_16 :
    ran [] [0xC4, 0x34, 0x12] ({ base with f := 0x80 }) (fun t => (t.f, t.pc, t.totalCycles)) =
      some (0x80, 0x0203, 12) := by decide

/-- RET, R278 (95_test_vectors.md V47.18). -/
theorem test_V47_18 :
    ran [(0xFFFC, 0x53), (0xFFFD, 0x01)] [0xC9] ({ base with sp := 0xFFFC }) (fun t => (t.f, t.pc, t.totalCycles, t.sp)) =
      some (0x00, 0x0153, 16, 0xFFFE) := by decide

/-- RET C, R279 (95_test_vectors.md V47.20). -/
theorem test_V47_20 :
    ran [(0xFFFC, 0x53), (0xFFFD, 0x01)] [0xD8] ({ base with sp := 0xFFFC }) (fun t => (t.f, t.pc, t.totalCycles)) =
      some (0x00, 0x0201, 8) := by decide

/-- RET NC, R279 (95_test_vectors.md V47.19). -/
theorem test_V47_19 :
    ran [(0xFFFC, 0x53), (0xFFFD, 0x01)] [0xD0] ({ base with sp := 0xFFFC }) (fun t => (t.f, t.pc, t.totalCycles, t.sp)) =
      some (0x00, 0x0153, 20, 0xFFFE) := by decide

/-- RETI, R280 (95_test_vectors.md V47.22). -/
theorem test_V47_22 :
    ran [(0xFFFC, 0x00), (0xFFFD, 0x03)] [0xD9] ({ base with sp := 0xFFFC, eiPending := .armed, cfg := { base.cfg with eiDelay := .one } }) (fun t => (t.f, t.pc, t.totalCycles, t.sp, t.ime, t.eiPending)) =
      some (0x00, 0x0300, 16, 0xFFFE, true, .none) := by decide

/-- RST 38H, R281 (95_test_vectors.md V47.23). -/
theorem test_V47_23 :
    ran [] [0xFF] ({ base with pc := 0x1000, sp := 0xD000 }) (fun t => (t.f, t.pc, t.totalCycles, t.sp, t.memRead 0xCFFE, t.memRead 0xCFFF)) =
      some (0x00, 0x0038, 16, 0xCFFE, 0x01, 0x10) := by decide

/-! ## The table's words and the fetch -/

/-- Rows as the table numbers them: an extended row, a primary row, and the bare prefix (log entries 7, 8). -/
theorem test_table_words :
    decodeTableWord 16 0xCB37 = some .swapA ∧ decodeTableWord 8 0x21 = some (.ldHlNn 0) ∧
      decodeTableWord 8 0xCB = some .rlcB := by decide

/-- The first step after reset runs the word placed for it, HALT here. -/
theorem test_withFetchWord_runs_it :
    (match step (State.reset.withFetchWord 8 0x76) with
      | .next t => decide (t.mode = .halted ∧ t.pc = 1)
      | _ => false) = true := by decide

/-! ## Witnesses

One theorem for each obligation that has hypotheses: a concrete state and operands that meet them together, for each
clause at a boundary of its range. -/

/-- A state where the boot overlay shows. -/
def overlaid : State := { base with mem := [] }

/-- A state with a request that is pending and enabled. -/
def requested (bit : Byte) : State := withBytes base [(0xFFFF, bit), (0xFF0F, bit)]

/-- The base state under EI_DELAY = 1. -/
def delayed : State := { base with cfg := { base.cfg with eiDelay := .one } }

theorem base_quiet : base.quietEnv := by
  unfold State.quietEnv
  decide

theorem witness_DecodeInvertsEncode : Instr.wellFormed (.ldHlNn 0xFFFF) = true := by decide

theorem witness_EncodeInvertsDecode : ∃ b0 : Byte, b0 ≠ 0x10 := ⟨0xFD, by decide⟩

theorem witness_ElevenOpcodesAreUnrecognized :
    (∃ rest, decode .two [0xD3, 0, 0] = .ok (.illegal 0xD3, rest)) ∧
      (∃ rest, decode .one [0xFD, 0, 0] = .ok (.illegal 0xFD, rest)) :=
  ⟨⟨_, rfl⟩, ⟨_, rfl⟩⟩

theorem witness_LengthDependsOnFirstByte :
    ∃ i1 i2 l1 l2, decode .two [0x21, 0, 0] = .ok (i1, l1) ∧ decode .two [0x21, 1, 2, 3] = .ok (i2, l2) :=
  ⟨_, _, _, _, rfl, rfl⟩

theorem witness_StepRunsTheDecodedInstruction :
    ∃ i rest, base.mode = .active ∧ base.landEnv.quietEnv ∧
      decode base.cfg.stopLength base.landEnv.bytesAtPc = .ok (i, rest) :=
  ⟨_, _, rfl, base_quiet, rfl⟩

theorem witness_StopAndHaltRun :
    base.cfg.stopLength = .two ∧
      ({ base with cfg := { base.cfg with stopLength := .one } } : State).cfg.stopLength = .one ∧
      ({ base with mode := .stopped } : State).mode = .stopped ∧
      ({ requested 0x10 with ime := true } : State).ime = true ∧
      ({ requested 0x10 with ime := true } : State).pendingEnabled ≠ 0 ∧
      ({ requested 0x10 with ime := true, mode := .halted } : State).mode = .halted ∧
      ({ requested 0x10 with ime := true, mode := .halted } : State).ime = true ∧
      ({ requested 0x10 with ime := true, mode := .halted } : State).landEnv.pendingEnabled ≠ 0 := by decide

/-- The condition of TookInterrupt on the stack, each of its three ways, the last at its first stack pointer. -/
theorem witness_keepsPushed :
    base.cfg.bootOverlayWrites = .redirect ∧ Memory.read base.mem 0xFF50 ≠ 0 ∧
      256 ≤ (({ overlaid with sp := 0x0102 } : State).sp - 1).toNat ∧
      256 ≤ (({ overlaid with sp := 0x0102 } : State).sp - 2).toNat := by decide

theorem witness_EndedRunsStay :
    ({ base with mode := .stopped } : State).mode = .stopped ∧ ({ base with mode := .exited } : State).mode = .exited ∧
      ({ base with mode := .fault 0xD3 0 } : State).mode = .fault 0xD3 0 := ⟨rfl, rfl, rfl⟩

theorem witness_EveryInstructionCompletes :
    (∀ op, (Instr.nop) ≠ .illegal op) ∧ (∃ op, (Instr.illegal 0xD3) = .illegal op) :=
  ⟨(fun _ h => nomatch h), _, rfl⟩

theorem witness_RegisterFrame :
    ∃ t, exec .ldBC base = .next t ∧ Reg8.a ∉ destRegs (encode .two .ldBC) := ⟨_, rfl, by decide⟩

theorem witness_FlagsColumnHolds :
    ∃ t, (∀ op, (Instr.illegal 0xD3) = .illegal op → op ∈ illegalOpcodes) ∧ exec (.illegal 0xD3) base = .next t :=
  ⟨_, fun op h => by injection h with h; subst h; decide, rfl⟩

theorem witness_MemoryFrame :
    ∃ t t', base.quietEnv ∧
      (exec .ldAtHlA base = .next t ∧ (1 : Word) ∉ storedAt (encode .two .ldAtHlA) base ∧
        (0xFF50 : Word) ∉ storedAt (encode .two .ldAtHlA) base) ∧
      (exec (.ldhAtNA 0x50) base = .next t' ∧ (0x0100 : Word) ∉ storedAt (encode .two (.ldhAtNA 0x50)) base ∧
        0xFF < (0x0100 : Word).toNat) :=
  ⟨_, _, base_quiet, ⟨rfl, by decide, by decide⟩, ⟨rfl, by decide, by decide⟩⟩

theorem witness_ControlStateFrame :
    ∃ t, exec .nop base = .next t ∧ Instr.nop ≠ .halt ∧ Instr.nop ≠ .stop ∧ (∀ op, Instr.nop ≠ .illegal op) ∧
      Instr.nop ≠ .di ∧ Instr.nop ≠ .ei ∧ Instr.nop ≠ .reti ∧ mayMoveSp .nop = false ∧ mayJump .nop = false ∧
      base.cfg.envWritePoints = .round :=
  ⟨_, rfl, by decide, by decide, (fun _ h => nomatch h), by decide, by decide, by decide, rfl, rfl, rfl⟩

theorem witness_ControlInstructionsRun :
    base.cfg.eiDelay = .zero ∧ delayed.cfg.eiDelay = .one ∧ delayed.eiPending = .none ∧
      ({ delayed with eiPending := .ready } : State).eiPending ≠ .none := by decide

/-- An active core and the state a DI gives. -/
theorem witness_ControlInstructionsRun_di : base.mode = .active ∧ ∃ t, Runs [0xF3] base t :=
  ⟨rfl, _, .di, rfl, rfl⟩

theorem witness_UnrecognizedOpcodeFaults :
    (base.placeBytes 0x0200 [0xFD]).mode = .active ∧ (base.placeBytes 0x0200 [0xFD]).landEnv.quietEnv ∧
      (base.placeBytes 0x0200 [0xFD]).landEnv.memRead (base.placeBytes 0x0200 [0xFD]).pc ∈ illegalOpcodes :=
  ⟨rfl, .inl rfl, by decide⟩

theorem witness_DaaRuns :
    nOf base.f = false ∧ (nOf ({ base with f := 0x40 } : State).f = true ∧ base.cfg.daaMode = .lr35902) ∧
      ({ base with f := 0x40, cfg := { base.cfg with daaMode := .addOnly } } : State).cfg.daaMode = .addOnly := by
  decide

theorem witness_SixteenBitArithmeticRun :
    base.cfg.flag16Mode = .source ∧
      ({ base with cfg := { base.cfg with flag16Mode := .lr35902 } } : State).cfg.flag16Mode = .lr35902 := by decide

/-- The last address of the overlay with the latch zero, under both BOOT_OVERLAY_WRITES values, and outside it the first
address after the overlay, and address 0 with the latch set. -/
theorem witness_PortReadsAndWrites :
    (0x00FF : Word).toNat < 256 ∧ Memory.read overlaid.mem 0xFF50 = 0 ∧
      overlaid.cfg.bootOverlayWrites = .redirect ∧
      ({ overlaid with cfg := { overlaid.cfg with bootOverlayWrites := .ignore } } : State).cfg.bootOverlayWrites =
        .ignore ∧
      256 ≤ (0x0100 : Word).toNat ∧ Memory.read base.mem 0xFF50 ≠ 0 := by decide

theorem witness_LatchSwitchesTheOverlay : (0x00FF : Word).toNat < 256 ∧ (0x01 : Byte) ≠ 0 := by decide

theorem witness_WriteChangesOneByte :
    base.cfg.bootOverlayWrites = .redirect ∧ (0x00FF : Word) ≠ 0x0100 ∧ (0x0100 : Word) ≠ 0xFF50 ∧
      256 ≤ (0x0100 : Word).toNat ∧ Memory.read base.mem 0xFF50 ≠ 0 := by decide

theorem witness_CanonicalMemoryIsUnique :
    Memory.wf [(0, 0x01), (65535, 0xFF)] = true ∧
      ∀ x, x < 65536 → Memory.read [(0, 0x01), (65535, 0xFF)] x = Memory.read [(0, 0x01), (65535, 0xFF)] x :=
  ⟨by decide, fun _ _ => rfl⟩

theorem witness_PushThenPopIsSymmetric :
    base.quietEnv ∧ base.cfg.bootOverlayWrites = .redirect ∧ Memory.read base.mem 0xFF50 ≠ 0 ∧
      (256 ≤ (({ base with sp := 0x0102 } : State).sp - 1).toNat ∧
        256 ≤ (({ base with sp := 0x0102 } : State).sp - 2).toNat) :=
  ⟨base_quiet, by decide, by decide, by decide, by decide⟩

theorem witness_ReadModifyWriteIsNotAtomic :
    ∃ s : State, s.cfg.envWritePoints = .byte ∧ s.env = [[.write s.hl 0x55]] ∧ 256 ≤ s.hl.toNat :=
  ⟨{ base with
      h := 0x01, l := 0x00, env := [[.write 0x0100 0x55]]
      cfg := { base.cfg with envWritePoints := .byte } }, rfl, rfl, by decide⟩

/-- A launch with given parameters, INIT_MEM all zero, and a boot sequence of zeros. -/
def launch (p : Params) : Launch := { params := p, initMem := [], bootRom := Vector.replicate 256 0 }

theorem witness_ResetLeavesTheStatedValues :
    (launch Params.default).params.resetMode = .zero ∧
      (launch { Params.default with resetMode := .postBoot }).params.resetMode = .postBoot ∧
      Memory.read (launch Params.default).initMemory 0xFF50 = 0 ∧ (0xFF4F : Nat) ≠ 0xFF50 := by decide

theorem witness_CartridgeIsCopiedOrRefused :
    (Session.start (launch Params.default)).phase = .fresh ∧
      (List.replicate 32768 (0x5A : Byte)).length ≤ 32768 ∧ 32768 < (List.replicate 32769 (0x5A : Byte)).length :=
  ⟨rfl, List.length_replicate.le, by rw [List.length_replicate]; decide⟩

theorem witness_LaunchOrderIsKept :
    ∃ x y z w : Session, x.phase = .running ∧ y.phase = .loaded ∧ z.phase = .fresh ∧ w.phase = .failed ∧
      x.phase ≠ .failed :=
  ⟨{ Session.start (launch Params.default) with phase := .running },
    { Session.start (launch Params.default) with phase := .loaded }, Session.start (launch Params.default),
    { Session.start (launch Params.default) with phase := .failed }, rfl, rfl, rfl, rfl, by decide⟩

theorem witness_OnlySoftwareWritesIe :
    (∃ x y : Session, x.apply (.envWrite 0xFFFF 0x1F) = .next y ∧ y.state.memRead 0xFFFF = 0x00) ∧
      (∃ x y : Session, x.apply (.envWrite 0xFFFE 0x1F) = .next y ∧ y.state.memRead 0xFFFE = 0x1F) ∧
      (∃ x y : Session, x.apply (.postInterrupt .joypad) = .next y ∧ y.state.memRead 0xFF0F = 0x10) ∧
      ∃ s t : State, s.mode = .halted ∧ step s = .next t ∧ t.sp = s.sp :=
  ⟨⟨Session.start (launch Params.default), _, rfl, by decide⟩, ⟨Session.start (launch Params.default), _, rfl, by decide⟩,
    ⟨Session.start (launch Params.default), _, rfl, by decide⟩,
    ⟨{ base with mode := .halted, env := [[.write 0xFFFF 0x1F]] }, _, rfl, rfl, by decide⟩⟩

/-- R33: another agent's write lands at 0xFFFE and not at 0xFFFF, where a store of the core lands. -/
theorem test_only_software_writes_IE :
    (base.applyEnvs [.write 0xFFFE 0x1F, .write 0xFFFF 0x1F]).memRead 0xFFFF = base.memRead 0xFFFF ∧
      (base.applyEnvs [.write 0xFFFE 0x1F, .write 0xFFFF 0x1F]).memRead 0xFFFE = 0x1F ∧
      (base.store 0xFFFF 0xE4).memRead 0xFFFF = 0xE4 := by decide

/-- R343: an environment write belongs to step 3, so no cartridge is loaded after it. -/
theorem test_no_cartridge_after_environment_write :
    (match ((Session.start (launch Params.default)).after (.envWrite 0xC000 0x01)).apply (.loadCartridge [0x00]) with
      | .refused .launchAlreadyRunning => true
      | _ => false) = true := by decide

/-- R351: interrupts_quiet allows memory writes among the acts to come and excludes a posted request. -/
theorem test_interruptsQuiet :
    ({ base with env := [[.write 0xC000 0x01]] } : State).interruptsQuiet ∧
      ¬ ({ base with env := [[.post .timer]] } : State).interruptsQuiet := by
  unfold State.interruptsQuiet
  decide

/-- R351: the state of each reset mode meets clean_reset of that mode, whatever the environment will do. -/
theorem test_cleanReset (acts : List (List EnvAct)) :
    State.cleanReset .zero { State.resetWith (launch Params.default) with env := acts } ∧
      State.cleanReset .postBoot
        { State.resetWith (launch { Params.default with resetMode := .postBoot }) with env := acts } :=
  ⟨⟨_, rfl, rfl⟩, ⟨_, rfl, rfl⟩⟩

theorem witness_ArbiterServesTheLowestBit :
    base.ime = false ∧
      (Memory.read base.mem 0xFFFF &&& Memory.read base.mem 0xFF0F &&& 0x1F = 0) ∧
      ({ requested 0x10 with ime := true } : State).ime = true ∧
      (Memory.read (requested 0x10).mem 0xFFFF &&& Memory.read (requested 0x10).mem 0xFF0F &&& 0x1F).getLsbD 4 = true ∧
      (∀ j : Nat, j < 4 →
        (Memory.read (requested 0x10).mem 0xFFFF &&& Memory.read (requested 0x10).mem 0xFF0F &&& 0x1F).getLsbD j =
          false) ∧
      (Memory.read (requested 0x1F).mem 0xFFFF &&& Memory.read (requested 0x1F).mem 0xFF0F &&& 0x1F).getLsbD 0 =
        true := by decide

theorem witness_EiCommitMovesOneStage :
    base.cfg.eiDelay = .zero ∧ delayed.cfg.eiDelay = .one ∧ delayed.eiPending = .none ∧
      ({ delayed with eiPending := .ready } : State).eiPending = .ready ∧
      ({ delayed with eiPending := .armed } : State).eiPending = .armed := by decide

theorem witness_DelayedEiTakesOneInstruction :
    ∃ t u, delayed.cfg.eiDelay = .one ∧ delayed.ime = false ∧ delayed.eiPending = .none ∧ delayed.mode = .active ∧
      exec .ei delayed = .next t ∧ Instr.nop ≠ .di ∧ Instr.nop ≠ .stop ∧ (∀ op, Instr.nop ≠ .illegal op) ∧
      exec .nop t.endRound = .next u :=
  ⟨_, _, rfl, rfl, rfl, rfl, rfl, by decide, by decide, (fun _ h => nomatch h), rfl⟩

/-- The two rounds without a commit: a STOP and an unrecognized opcode after the EI. -/
theorem witness_DelayedEiTakesOneInstruction_ends :
    ∃ t u u', exec .ei delayed = .next t ∧ exec .stop t.endRound = .next u ∧
      (∃ op, (Instr.illegal 0xD3) = .illegal op) ∧ exec (.illegal 0xD3) t.endRound = .next u' :=
  ⟨_, _, _, rfl, rfl, ⟨_, rfl⟩, rfl⟩

/-- The base state under HALT_WAKE_IME0 = stay with EXIT_ON_IDLE_HALT set. -/
def staying : State := { base with cfg := { base.cfg with haltWakeIme0 := .stay, exitOnIdleHalt := true } }

theorem witness_HaltWakeRule :
    ((requested 0x01).pendingEnabled ≠ 0 ∧ (requested 0x01).cfg.haltWakeIme0 = .wake) ∧
      (staying.cfg.haltWakeIme0 = .stay ∧ staying.cfg.exitOnIdleHalt = true ∧
        Memory.read staying.mem 0xFFFF &&& 0x1F = 0 ∧ staying.ime = false) ∧
      (base.pendingEnabled = 0 ∧ base.cfg.exitOnIdleHalt = false) ∧
      (Memory.read (withBytes staying [(0xFFFF, 0x10)]).mem 0xFFFF &&& 0x1F ≠ 0 ∧
        ({ withBytes staying [(0xFFFF, 0x10)] with ime := true } : State).ime = true) := by decide

theorem witness_HaltIsLeftOnlyByARequest :
    ∃ t u, ({ requested 0x01 with mode := .halted } : State).mode = .halted ∧
      step { requested 0x01 with mode := .halted } = .next t ∧ t.mode = .active ∧
      step { base with mode := .halted } = .next u ∧ ({ base with mode := .halted } : State).landEnv.pendingEnabled = 0 :=
  ⟨_, _, rfl, rfl, by decide, rfl, by decide⟩

theorem witness_AtMostOneDispatchPerRound :
    (base.ime = false ∧ base.eiPending ≠ .ready ∧ base.mode = .active) ∧
      (({ requested 0x01 with ime := true } : State).ime = true ∧
        ({ requested 0x01 with ime := true } : State).pendingEnabled ≠ 0) ∧
      (({ requested 0x10 with eiPending := .ready, cfg := delayed.cfg } : State).cfg.eiDelay = .one ∧
        ({ requested 0x10 with eiPending := .ready, cfg := delayed.cfg } : State).eiPending = .ready ∧
        ({ requested 0x10 with eiPending := .ready, cfg := delayed.cfg } : State).pendingEnabled ≠ 0) := by decide

theorem witness_StepKeepsTheInvariant : ∃ t, base.Inv ∧ step base = .next t :=
  ⟨_, ⟨by decide, by decide, fun _ => rfl⟩, rfl⟩

theorem witness_CountersInfluenceNothing : ∃ t, step base = .next t := ⟨_, rfl⟩

theorem witness_FlagsAreTotal :
    ∃ s' : State, base.a = s'.a ∧ cOf base.f = cOf s'.f ∧ base.cfg.subHalfReading = s'.cfg.subHalfReading ∧
      base.value (.reg .b) = s'.value (.reg .b) ∧ base.f ≠ s'.f :=
  ⟨{ base with f := 0xE0, c := 0x77 }, rfl, by decide, rfl, rfl, by decide⟩

theorem witness_DaaCorrectsDecimalAddition :
    ∃ t u t' u', ({ base with a := 0x99 } : State).a = bcd 99 ∧
      exec (.addAN (bcd 99)) { base with a := 0x99 } = .next t ∧ exec .daa t = .next u ∧
      exec (.adcAN (bcd 0)) { base with a := 0x99 } = .next t' ∧ exec .daa t' = .next u' :=
  ⟨_, _, _, _, by decide, rfl, rfl, rfl, rfl⟩

theorem witness_DaaCorrectsDecimalSubtraction :
    ∃ t u t' u', base.a = bcd 0 ∧ base.cfg.daaMode = .lr35902 ∧
      exec (.subN (bcd 99)) base = .next t ∧ exec .daa t = .next u ∧
      exec (.sbcAN (bcd 99)) base = .next t' ∧ exec .daa t' = .next u' :=
  ⟨_, _, _, _, by decide, rfl, rfl, rfl, rfl, rfl⟩

end Sys2Proof.Tests
end

/-! ## The flags column of the opcode table (R13, R21, R111)

`Shape.column` is the flags column of a shape of instruction. It is the column that `flagColumn` reads from the bytes
(`flagColumn_encode`), and every shape does to F what it says (`run_follows_column`). -/

namespace Sys2Proof.Machine

/-! ### What the shared operations do to F -/

/-- The flags written into F are the flags read back from it (R21, R22). -/
@[simp] theorem ofByte_toByte (fl : Flags) : Flags.ofByte (fl.toByte &&& 0xF0) = fl := by
  obtain ⟨z, n, h, c⟩ := fl
  revert z n h c
  decide

@[simp] theorem put_f (s : State) (p : Place) (v : Byte) : (s.put p v).f = s.f := by
  cases p <;> simp [State.put]

@[simp] theorem load_f (s : State) (r : Reg8) (x : Word) : (s.load r x).f = s.f := by
  simp [State.load]

@[simp] theorem stepHl_f (s : State) (d : Word) : (s.stepHl d).f = s.f := rfl

@[simp] theorem write16_f (s : State) (x v : Word) : (s.write16 x v).f = s.f := by
  obtain ⟨_, _, _, h⟩ := write16_eq s x v
  rw [h]

@[simp] theorem push16_f (s : State) (v : Word) : (s.push16 v).f = s.f := by
  obtain ⟨_, _, _, h⟩ := push16_eq s v
  rw [h]

@[simp] theorem pop16_f (s : State) : s.pop16.2.f = s.f := by
  obtain ⟨_, _, _, h⟩ := pop16_eq s
  rw [h]

theorem setStackPair_f (s : State) {p : StackPair} (v : Word) (h : p ≠ .af) : (s.setStackPair p v).f = s.f := by
  cases p with
  | af => exact absurd rfl h
  | bc | de | hl => rfl

@[simp] theorem jumpRel_f (s : State) (e : Byte) : (s.jumpRel e).f = s.f := rfl

@[simp] theorem call_f (s : State) (x : Word) : (s.call x).f = s.f := by
  simp [State.call]

@[simp] theorem ret_f (s : State) : s.ret.f = s.f := by
  simp [State.ret]

@[simp] theorem returnFromInterrupt_f (s : State) : s.returnFromInterrupt.f = s.f := by
  simp [State.returnFromInterrupt]

theorem ifCond_f (s : State) (cc : Cond) {taken : State → State} (h : (taken s).f = s.f) (m n : Nat) :
    (s.ifCond cc taken m n).f = s.f := by
  unfold State.ifCond
  split
  · exact h
  · rfl

@[simp] theorem disableInterrupts_f (s : State) : s.disableInterrupts.f = s.f := by
  unfold State.disableInterrupts
  split <;> rfl

@[simp] theorem enableInterrupts_f (s : State) : s.enableInterrupts.f = s.f := by
  unfold State.enableInterrupts
  split
  · rfl
  · split <;> rfl

@[simp] theorem modifyQuiet_f (s : State) (p : Place) (g : Byte → Byte) : (s.modifyQuiet p g).f = s.f := by
  simp [State.modifyQuiet]

theorem modify8_f (s : State) (p : Place) (g : Byte → Flags → Res8) :
    (s.modify8 p g).f = (g (s.value p) s.flags).flags.toByte &&& 0xF0 := by
  simp [State.modify8]

theorem alu_f (s : State) (op : AluOp) (v : Byte) :
    (s.alu op v).f = (aluResult s.cfg.subHalfReading op s.a v s.flags.c).flags.toByte &&& 0xF0 := by
  cases op <;> rfl

/-- DAA keeps N and clears H in either direction (R107). -/
theorem bcdCorrect_flags (mode : Config.DaaMode) (v : Byte) (fl : Flags) :
    (bcdCorrect mode v fl).flags.n = fl.n ∧ (bcdCorrect mode v fl).flags.h = false := by
  cases mode with
  | addOnly => exact ⟨rfl, rfl⟩
  | lr35902 =>
    by_cases hn : fl.n = true
    · simp [bcdCorrect, hn, bcdSub]
    · simp [bcdCorrect, hn, bcdAdd]

theorem addHl_flags_n (mode : Config.Flag16Mode) (x y : Word) (fl : Flags) : (addHl mode x y fl).flags.n = false := by
  cases mode <;> rfl

theorem spPlusE_flags_n (mode : Config.Flag16Mode) (sp : Word) (e : Byte) (fl : Flags) :
    (spPlusE mode sp e fl).flags.n = false := by
  cases mode <;> rfl

end Sys2Proof.Machine

namespace Sys2Proof.Laws

open Sys2Proof.Machine Sys2Proof.Claims

/-! ### A change of F that a row of the column allows -/

/-- From the flag byte `f` to `f'`, each flag does what the row says, and a row that writes no flag keeps the byte. -/
def Follows (col : FlagColumn) (f f' : Byte) : Prop :=
  col.z.holds (zOf f) (zOf f') ∧ col.n.holds (nOf f) (nOf f') ∧ col.h.holds (hOf f) (hOf f') ∧
    col.c.holds (cOf f) (cOf f') ∧ (col = silent → f' = f)

theorem follows_silent_of_eq {f f' : Byte} (h : f' = f) : Follows silent f f' := by
  subst h
  exact ⟨rfl, rfl, rfl, rfl, fun _ => rfl⟩

/-- Four flags written follow a row that is not silent when each flag does what the row says. -/
theorem follows_of_flags {col : FlagColumn} {f : Byte} {fl : Flags} (hcol : col ≠ silent)
    (hz : col.z.holds (zOf f) fl.z) (hn : col.n.holds (nOf f) fl.n) (hh : col.h.holds (hOf f) fl.h)
    (hc : col.c.holds (cOf f) fl.c) : Follows col f (fl.toByte &&& 0xF0) := by
  rw [← ofByte_toByte fl] at hz hn hh hc
  exact ⟨hz, hn, hh, hc, fun h => absurd h hcol⟩

/-- The row of POP AF says nothing of any flag (R178). -/
theorem follows_computed (f f' : Byte) : Follows ⟨.computed, .computed, .computed, .computed⟩ f f' :=
  ⟨trivial, trivial, trivial, trivial, fun h => absurd h (by decide)⟩

/-! ### The writers of flags -/

/-- The 3-bit code of an accumulator operation (R89). -/
def aluCode : AluOp → Nat
  | .add => 0
  | .adc => 1
  | .sub => 2
  | .sbc => 3
  | .and => 4
  | .xor => 5
  | .or => 6
  | .cp => 7

theorem alu_follows (s : State) (op : AluOp) (v : Byte) :
    Follows (aluColumn (aluCode op)) s.f (s.alu op v).f := by
  rw [alu_f]
  cases op with
  | add | adc | sub | sbc | cp => exact follows_of_flags (by decide) trivial rfl trivial trivial
  | and | xor | or => exact follows_of_flags (by decide) trivial rfl rfl rfl

/-- The row of INC and DEC of a byte, which keep the carry and differ in N (R215, R217). -/
def incDecColumn (n : FlagEffect) : FlagColumn := ⟨.computed, n, .computed, .keep⟩

/-- The row of the 16-bit additions (R230, R233). -/
def sumColumn : FlagColumn := ⟨.computed, .zero, .computed, .computed⟩

/-- The row of an extended rotate or shift: SWAP clears the carry (R245 to R260). -/
def rotColumn (op : RotOp) : FlagColumn := ⟨.computed, .zero, .zero, if op = .swap then .zero else .computed⟩

/-- The row of BIT (R261). -/
def bitColumn : FlagColumn := ⟨.computed, .zero, .one, .keep⟩

theorem inc_follows (s : State) (p : Place) : Follows (incDecColumn .zero) s.f (s.modify8 p inc8).f := by
  rw [modify8_f]
  exact follows_of_flags (by decide) trivial rfl trivial rfl

theorem dec_follows (s : State) (p : Place) : Follows (incDecColumn .one) s.f (s.modify8 p dec8).f := by
  rw [modify8_f]
  exact follows_of_flags (by decide) trivial rfl trivial rfl

theorem daa_follows (s : State) (mode : Config.DaaMode) :
    Follows ⟨.computed, .keep, .zero, .computed⟩ s.f (s.onA (bcdCorrect mode)).f := by
  obtain ⟨hn, hh⟩ := bcdCorrect_flags mode s.a s.flags
  exact follows_of_flags (by decide) trivial hn hh trivial

theorem addToHl_follows (s : State) (v : Word) : Follows sumColumn s.f (s.addToHl v).f :=
  follows_of_flags (by decide) trivial (addHl_flags_n _ _ _ _) trivial trivial

theorem addSpRel_follows (s : State) (e : Byte) : Follows sumColumn s.f (s.addSpRel e).f :=
  follows_of_flags (by decide) trivial (spPlusE_flags_n _ _ _ _) trivial trivial

theorem loadHlSpRel_follows (s : State) (e : Byte) : Follows sumColumn s.f (s.loadHlSpRel e).f :=
  follows_of_flags (by decide) trivial (spPlusE_flags_n _ _ _ _) trivial trivial

theorem rot_follows (s : State) (op : RotOp) (p : Place) : Follows (rotColumn op) s.f (s.modify8 p (rot8 op)).f := by
  rw [modify8_f]
  cases op with
  | swap => exact follows_of_flags (by decide) trivial rfl rfl rfl
  | rlc | rrc | rl | rr | sla | sra | srl => exact follows_of_flags (by decide) trivial rfl rfl trivial

theorem rotA_follows (s : State) (op : RotOp) :
    Follows ⟨.zero, .zero, .zero, .computed⟩ s.f (s.onA (Machine.rotA op)).f :=
  follows_of_flags (by decide) rfl rfl rfl trivial

theorem bitTest_follows (s : State) (b : Fin 8) (p : Place) : Follows bitColumn s.f (s.bitTest b p).f :=
  follows_of_flags (by decide) trivial rfl rfl rfl

/-! ### The extended instructions (R91, R96, R244) -/

theorem rotColumn_rotOfCode {y : Nat} (h : y < 8) :
    rotColumn (rotOfCode y) = ⟨.computed, .zero, .zero, if y = 6 then .zero else .computed⟩ := by
  revert y
  decide

/-- An extended instruction does to F what the row of its second byte's fields says. -/
theorem extended_follows (s : State) (op2 : Byte) : Follows (flagColumn [0xCB, op2]) s.f (s.extended op2).f := by
  have hy : op2.toNat / 8 % 8 < 8 := Nat.mod_lt _ (by decide)
  rcases hx : op2.toNat / 64 with _ | _ | x
  · have hcol : flagColumn [0xCB, op2] = rotColumn (rotOfCode (op2.toNat / 8 % 8)) := by
      rw [rotColumn_rotOfCode hy]
      simp [flagColumn, hx]
    rw [hcol]
    simpa [State.extended, hx] using rot_follows s _ _
  · have hcol : flagColumn [0xCB, op2] = bitColumn := by simp [flagColumn, bitColumn, hx]
    rw [hcol]
    simpa [State.extended, hx] using bitTest_follows s _ _
  · have hcol : flagColumn [0xCB, op2] = silent := by simp [flagColumn, hx]
    rw [hcol]
    refine follows_silent_of_eq ?_
    rw [State.extended, hx]
    cases x <;> simp

/-! ### The column of a shape -/

/-- The flags column of a shape. -/
def Shape.column : Shape → FlagColumn
  | .prefixCb op2 => flagColumn [0xCB, op2]
  | .aluPlace op _ _ | .aluImm op _ => aluColumn (aluCode op)
  | .incPlace _ _ => incDecColumn .zero
  | .decPlace _ _ => incDecColumn .one
  | .daa => ⟨.computed, .keep, .zero, .computed⟩
  | .cpl => ⟨.keep, .one, .one, .keep⟩
  | .scf => ⟨.keep, .zero, .zero, .one⟩
  | .ccf => ⟨.keep, .zero, .zero, .computed⟩
  | .addHl _ | .addSpRel _ | .hlFromSpRel _ => sumColumn
  | .rotA _ => ⟨.zero, .zero, .zero, .computed⟩
  | .rot op _ _ => rotColumn op
  | .bit _ _ _ => bitColumn
  | .pop .af => ⟨.computed, .computed, .computed, .computed⟩
  | _ => silent

/-- The bytes of one of the eleven unrecognized opcodes have the silent row (R93). -/
theorem flagColumn_of_unrecognized {op : Byte} (h : op ∈ illegalOpcodes) : flagColumn [op] = silent := by
  revert op
  decide

/-- The row read from an instruction's bytes is the row of its shape. -/
theorem flagColumn_encode {i : Instr} (h : ∀ op, i = .illegal op → op ∈ illegalOpcodes) :
    flagColumn (encode .two i) = (shapeOf i).column := by
  cases i
  case illegal op => exact flagColumn_of_unrecognized (h op rfl)
  all_goals rfl

/-- Every shape does to F what its row says. -/
theorem run_follows_column (s : State) (sh : Shape) : Follows sh.column s.f (sh.run s).f := by
  cases sh
  case prefixCb op2 => exact extended_follows s op2
  case aluPlace op p n => exact afterRead_f s p ▸ alu_follows (s.afterRead p) op (s.value p)
  case aluImm op n => exact alu_follows s op n
  case incPlace p n => exact inc_follows s p
  case decPlace p n => exact dec_follows s p
  case daa => exact daa_follows s _
  case cpl => exact follows_of_flags (by decide) rfl rfl rfl rfl
  case scf => exact follows_of_flags (by decide) rfl rfl rfl rfl
  case ccf => exact follows_of_flags (by decide) rfl rfl rfl trivial
  case addHl p => exact addToHl_follows s _
  case addSpRel e => exact addSpRel_follows s e
  case hlFromSpRel e => exact loadHlSpRel_follows s e
  case rotA op => exact rotA_follows s op
  case rot op p n => exact rot_follows s op p
  case bit b p n => exact bitTest_follows s b p
  case pop p =>
    cases p with
    | af => exact follows_computed _ _
    | bc | de | hl => exact follows_silent_of_eq (pop16_f s)
  case jumpIf cc nn => exact follows_silent_of_eq (ifCond_f s cc rfl _ _)
  case jumpRelIf cc e => exact follows_silent_of_eq (ifCond_f s cc rfl _ _)
  case callIf cc nn => exact follows_silent_of_eq (ifCond_f s cc (call_f s nn) _ _)
  case retIf cc => exact follows_silent_of_eq (ifCond_f s cc (ret_f s) _ _)
  all_goals exact follows_silent_of_eq (by simp [Shape.run])

/-- Settles O12: an instruction's row is the row of its shape, and every shape does to F what its row says. -/
theorem flagsColumnHolds : Obligations.FlagsColumnHolds := by
  unfold Obligations.FlagsColumnHolds
  intro i s t hill ht
  rw [exec_eq_run] at ht
  cases ht
  rw [flagColumn_encode hill]
  exact run_follows_column s (shapeOf i)

end Sys2Proof.Laws

/-! ## Data steps: what instructions leave alone, and what every one of them keeps (R13, R22, R31, R50)

`DataStep s t` says that from `s` to `t` only the general registers, F, the two stores and the environment's acts have
moved, and that memory and F stay well formed. `Shape.control` is what a shape does to the rest of the machine, and
`exec_cases` is the one statement about exec that the frame, the cycle counts and the invariant are read from. -/

namespace Sys2Proof.Machine

/-! ### Data steps -/

/-- From `s` to `t` the control state stays, no act of the environment has landed where ENV_WRITE_POINTS is round (R63),
memory stays canonical (R50), and the low nibble of F stays zero (R22). -/
structure DataStep (s t : State) : Prop where
  sp : t.sp = s.sp
  pc : t.pc = s.pc
  ime : t.ime = s.ime
  mode : t.mode = s.mode
  eiPending : t.eiPending = s.eiPending
  totalCycles : t.totalCycles = s.totalCycles
  cfg : t.cfg = s.cfg
  env : s.cfg.envWritePoints = .round → t.env = s.env
  wf : s.mem.wf = true → t.mem.wf = true
  nibble : s.f &&& 0x0F = 0x00 → t.f &&& 0x0F = 0x00

theorem masked_low_nibble (v : Byte) : v &&& 0xF0 &&& 0x0F = 0x00 := by
  rw [BitVec.and_assoc]
  exact BitVec.and_zero

@[simp] theorem setSp_setSp (s : State) (v w : Word) : (s.setSp v).setSp w = s.setSp w := rfl

namespace DataStep

variable {s t u : State}

theorem refl (s : State) : DataStep s s := ⟨rfl, rfl, rfl, rfl, rfl, rfl, rfl, fun _ => rfl, id, id⟩

theorem trans (h : DataStep s t) (h' : DataStep t u) : DataStep s u where
  sp := h'.sp.trans h.sp
  pc := h'.pc.trans h.pc
  ime := h'.ime.trans h.ime
  mode := h'.mode.trans h.mode
  eiPending := h'.eiPending.trans h.eiPending
  totalCycles := h'.totalCycles.trans h.totalCycles
  cfg := h'.cfg.trans h.cfg
  env hr := (h'.env (by rw [h.cfg, hr])).trans (h.env hr)
  wf := h'.wf ∘ h.wf
  nibble := h'.nibble ∘ h.nibble

theorem setReg (h : DataStep s t) (r : Reg8) (v : Byte) : DataStep s (t.setReg r v) := by
  cases r <;> exact { h with }

theorem setF (h : DataStep s t) (v : Byte) : DataStep s (t.setF v) :=
  { h with nibble := fun _ => masked_low_nibble v }

theorem setFlags (h : DataStep s t) (fl : Flags) : DataStep s (t.setFlags fl) := h.setF fl.toByte

theorem setHl (h : DataStep s t) (v : Word) : DataStep s (t.setHl v) := { h with }

/-- A write of a pair other than SP. -/
theorem setPair (h : DataStep s t) {p : Pair} (hp : p ≠ .sp) (v : Word) : DataStep s (t.setPair p v) := by
  cases p with
  | sp => exact absurd rfl hp
  | bc | de | hl => exact { h with }

theorem setStackPair (h : DataStep s t) (p : StackPair) (v : Word) : DataStep s (t.setStackPair p v) := by
  cases p with
  | af => exact (h.setReg .a (hiByte v)).setF (loByte v)
  | bc | de | hl => exact { h with }

theorem memWrite (h : DataStep s t) (x : Word) (v : Byte) : DataStep s (t.memWrite x v) :=
  h.trans (by constructor <;> simp +contextual [memWrite_wf])

theorem afterAccess (h : DataStep s t) : DataStep s t.afterAccess :=
  h.trans (by constructor <;> simp +contextual [afterAccess_wf, afterAccess_quiet])

theorem store (h : DataStep s t) (x : Word) (v : Byte) : DataStep s (t.store x v) := (h.memWrite x v).afterAccess

theorem load (h : DataStep s t) (r : Reg8) (x : Word) : DataStep s (t.load r x) := h.afterAccess.setReg r _

theorem afterRead (h : DataStep s t) (p : Place) : DataStep s (t.afterRead p) := by
  cases p with
  | reg r => exact h
  | atHl => exact h.afterAccess

theorem put (h : DataStep s t) (p : Place) (v : Byte) : DataStep s (t.put p v) := by
  cases p with
  | reg r => exact h.setReg r v
  | atHl => exact h.store t.hl v

theorem alu (h : DataStep s t) (op : AluOp) (v : Byte) : DataStep s (t.alu op v) := by
  cases op with
  | cp => exact h.setFlags _
  | add | adc | sub | sbc | and | xor | or => exact (h.setFlags _).setReg .a _

theorem onA (h : DataStep s t) (g : Byte → Flags → Res8) : DataStep s (t.onA g) := (h.setFlags _).setReg .a _

theorem modify8 (h : DataStep s t) (p : Place) (g : Byte → Flags → Res8) : DataStep s (t.modify8 p g) :=
  ((h.afterRead p).setFlags _).put p _

theorem modifyQuiet (h : DataStep s t) (p : Place) (g : Byte → Byte) : DataStep s (t.modifyQuiet p g) :=
  (h.afterRead p).put p _

theorem bitTest (h : DataStep s t) (b : Fin 8) (p : Place) : DataStep s (t.bitTest b p) := (h.afterRead p).setFlags _

theorem write16 (h : DataStep s t) (x v : Word) : DataStep s (t.write16 x v) := (h.store x _).store (x + 1) _

theorem setSp (h : DataStep s t) (v : Word) : DataStep (s.setSp v) (t.setSp v) := { h with sp := rfl }

theorem setPc (h : DataStep s t) (v : Word) : DataStep (s.setPc v) (t.setPc v) := { h with pc := rfl }

/-- But for SP, a push is a data step (R59). -/
theorem push16 (s : State) (v : Word) : DataStep (s.setSp (s.sp - 2)) (s.push16 v) := by
  have h := (((refl (s.setSp (s.sp - 1))).store (s.sp - 1) (hiByte v)).setSp (s.sp - 1 - 1)).store
    (s.sp - 1 - 1) (loByte v)
  simpa [State.push16, sub_one_twice] using h

/-- But for SP, a pop is a data step (R60). -/
theorem pop16 (s : State) : DataStep (s.setSp (s.sp + 2)) s.pop16.2 := by
  have h := ((refl s).afterAccess.setSp (s.sp + 1)).afterAccess.setSp (s.sp + 1 + 1)
  simpa [State.pop16, add_one_twice] using h

/-- A data step keeps the invariant. -/
theorem inv (h : DataStep s t) (hs : s.Inv) : t.Inv := by
  obtain ⟨hm, hf, he⟩ := hs
  refine ⟨h.wf hm, h.nibble hf, fun hd => ?_⟩
  rw [h.eiPending, he (by rw [← h.cfg, hd])]

end DataStep
end Sys2Proof.Machine

namespace Sys2Proof.Machine

theorem disableInterrupts_eq (s : State) :
    s.disableInterrupts = { s with ime := s.disableInterrupts.ime, eiPending := s.disableInterrupts.eiPending } := by
  unfold State.disableInterrupts
  split <;> rfl

theorem enableInterrupts_eq (s : State) :
    s.enableInterrupts = { s with ime := s.enableInterrupts.ime, eiPending := s.enableInterrupts.eiPending } := by
  unfold State.enableInterrupts
  split
  · rfl
  · split <;> rfl

/-- A number of cycles that the table gives an instruction (R350): a whole number of fours from 4 to 24. -/
abbrev IsCycleCount (n : Nat) : Prop := 4 ≤ n ∧ n ≤ 24 ∧ n % 4 = 0

/-- A conditional transfer does what its taken form does, or only counts its cycles (R270). -/
theorem ifCond_cases {s c t : State} {cc : Cond} (taken : State → State) (m n : Nat)
    (hc : c = if s.cond cc then t else s) (ht : DataStep t (taken s)) (hm : IsCycleCount m) (hn : IsCycleCount n) :
    ∃ u k, s.ifCond cc taken m n = u.cycles k ∧ DataStep c u ∧ IsCycleCount k := by
  subst hc
  unfold State.ifCond
  split
  · exact ⟨_, m, rfl, ht, hm⟩
  · exact ⟨_, n, rfl, .refl s, hn⟩

/-- An extended instruction is a data step with 8, 12 or 16 cycles (R244). -/
theorem extended_cases (s : State) (op2 : Byte) :
    ∃ u n, s.extended op2 = u.cycles n ∧ DataStep s u ∧ IsCycleCount n := by
  have hn : IsCycleCount (extendedCycles (op2.toNat / 64) (placeOfCode (op2.toNat % 8))) := by
    unfold extendedCycles
    split
    · decide
    · split <;> decide
  refine ⟨_, _, rfl, ?_, hn⟩
  split
  · exact (DataStep.refl s).modify8 _ _
  · exact (DataStep.refl s).bitTest _ _
  · exact (DataStep.refl s).modifyQuiet _ _
  · exact (DataStep.refl s).modifyQuiet _ _

end Sys2Proof.Machine

namespace Sys2Proof.Laws

open Sys2Proof.Machine Sys2Proof.Claims

/-! ### What a shape does to the control state -/

/-- The run state a shape leaves (R30). -/
def Shape.newMode (s : State) : Shape → Mode
  | .stop => .stopped
  | .halt => .halted
  | .illegal op => .fault op (s.pc - 1)
  | _ => s.mode

/-- IME as a shape leaves it (R29). -/
def Shape.newIme (s : State) : Shape → Bool
  | .di => s.disableInterrupts.ime
  | .ei => s.enableInterrupts.ime
  | .reti => true
  | _ => s.ime

/-- The pending EI as a shape leaves it (R32). -/
def Shape.newEiPending (s : State) : Shape → EiPending
  | .di => s.disableInterrupts.eiPending
  | .ei => s.enableInterrupts.eiPending
  | .reti => .none
  | _ => s.eiPending

/-- SP as a shape that may move it leaves it (R25); none for the other shapes. -/
def Shape.newSp? (s : State) : Shape → Option Word
  | .loadPair .sp nn => some nn
  | .incPair .sp => some (s.sp + 1)
  | .decPair .sp => some (s.sp - 1)
  | .spFromHl => some s.hl
  | .addSpRel e => some (s.addSpRel e).sp
  | .push _ | .call _ | .rst _ => some (s.sp - 2)
  | .pop _ | .ret | .reti => some (s.sp + 2)
  | .callIf cc _ => some (if s.cond cc then s.sp - 2 else s.sp)
  | .retIf cc => some (if s.cond cc then s.sp + 2 else s.sp)
  | _ => none

/-- PC as a control transfer leaves it (R270); none for the other shapes. -/
def Shape.newPc? (s : State) : Shape → Option Word
  | .jump nn | .call nn | .rst nn => some nn
  | .jumpHl => some s.hl
  | .jumpRel e => some (s.pc + sext16 e)
  | .ret | .reti => some s.pop16.1
  | .jumpIf cc nn | .callIf cc nn => some (if s.cond cc then nn else s.pc)
  | .jumpRelIf cc e => some (if s.cond cc then s.pc + sext16 e else s.pc)
  | .retIf cc => some (if s.cond cc then s.pop16.1 else s.pc)
  | _ => none

/-- The state with the control state that a shape leaves, everything else as it was. -/
def Shape.control (s : State) (sh : Shape) : State :=
  { s with
    mode := sh.newMode s
    ime := sh.newIme s
    eiPending := sh.newEiPending s
    sp := (sh.newSp? s).getD s.sp
    pc := (sh.newPc? s).getD s.pc }

theorem control_jumpIf (s : State) (cc : Cond) (nn : Word) :
    Shape.control s (.jumpIf cc nn) = if s.cond cc then s.setPc nn else s := by
  simp only [Shape.control, Shape.newPc?]
  split <;> rfl

theorem control_jumpRelIf (s : State) (cc : Cond) (e : Byte) :
    Shape.control s (.jumpRelIf cc e) = if s.cond cc then s.jumpRel e else s := by
  simp only [Shape.control, Shape.newPc?]
  split <;> rfl

theorem control_callIf (s : State) (cc : Cond) (nn : Word) :
    Shape.control s (.callIf cc nn) = if s.cond cc then (s.setSp (s.sp - 2)).setPc nn else s := by
  simp only [Shape.control, Shape.newSp?, Shape.newPc?]
  split <;> rfl

theorem control_retIf (s : State) (cc : Cond) :
    Shape.control s (.retIf cc) = if s.cond cc then (s.setSp (s.sp + 2)).setPc s.pop16.1 else s := by
  simp only [Shape.control, Shape.newSp?, Shape.newPc?]
  split <;> rfl

/-- A shape that counts cycles, with a cycle count of the table where it carries one. -/
def Shape.counts : Shape → Bool
  | .illegal _ => false
  | .aluPlace _ _ n | .incPlace _ n | .decPlace _ n | .rot _ _ n | .bit _ _ n | .res _ _ n | .set _ _ n =>
    decide (IsCycleCount n)
  | _ => true

/-- A shape that counts cycles does to the control state what `Shape.control` says, is a data step beside that, and then
counts its cycles. -/
theorem run_cases (s : State) {sh : Shape} (h : sh.counts = true) :
    ∃ u n, sh.run s = u.cycles n ∧ DataStep (sh.control s) u ∧ IsCycleCount n := by
  have hs : DataStep s s := .refl s
  cases sh
  case illegal op => exact absurd h Bool.false_ne_true
  case prefixCb op2 => exact extended_cases s op2
  case di =>
    refine ⟨_, 4, rfl, ?_, by decide⟩
    rw [disableInterrupts_eq]
    exact .refl _
  case ei =>
    refine ⟨_, 4, rfl, ?_, by decide⟩
    rw [enableInterrupts_eq]
    exact .refl _
  case copyReg | loadImm => exact ⟨_, _, rfl, hs.setReg _ _, by decide⟩
  case loadAtHl | loadAtPair | loadAbs | loadHigh | loadHighC => exact ⟨_, _, rfl, hs.load _ _, by decide⟩
  case storeAtHl | storeImmAtHl | storeAtPair | storeAbs | storeHigh | storeHighC =>
    exact ⟨_, _, rfl, hs.store _ _, by decide⟩
  case loadStep d => exact ⟨_, 8, rfl, (hs.load _ _).setHl _, by decide⟩
  case storeStep d => exact ⟨_, 8, rfl, (hs.store _ _).setHl _, by decide⟩
  case storeSp nn => exact ⟨_, 20, rfl, hs.write16 _ _, by decide⟩
  case loadPair p _ | incPair p | decPair p =>
    refine ⟨_, _, rfl, ?_, by decide⟩
    cases p with
    | sp => exact .refl _
    | bc | de | hl => exact hs.setPair (by decide) _
  case hlFromSpRel | addHl => exact ⟨_, _, rfl, (hs.setFlags _).setHl _, by decide⟩
  case addSpRel e => exact ⟨_, 16, rfl, (hs.setFlags _).setSp _, by decide⟩
  case push p => exact ⟨_, 16, rfl, .push16 s _, by decide⟩
  case pop p => exact ⟨_, 12, rfl, (DataStep.pop16 s).setStackPair _ _, by decide⟩
  case aluPlace op p n => exact ⟨_, n, rfl, (hs.afterRead p).alu _ _, of_decide_eq_true h⟩
  case aluImm op n => exact ⟨_, 8, rfl, hs.alu _ _, by decide⟩
  case incPlace | decPlace | rot => exact ⟨_, _, rfl, hs.modify8 _ _, of_decide_eq_true h⟩
  case bit b p n => exact ⟨_, n, rfl, hs.bitTest _ _, of_decide_eq_true h⟩
  case res | set => exact ⟨_, _, rfl, hs.modifyQuiet _ _, of_decide_eq_true h⟩
  case daa | rotA => exact ⟨_, _, rfl, hs.onA _, by decide⟩
  case cpl => exact ⟨_, 4, rfl, (hs.setFlags _).setReg .a _, by decide⟩
  case scf | ccf => exact ⟨_, _, rfl, hs.setFlags _, by decide⟩
  case call | rst => exact ⟨_, _, rfl, (DataStep.push16 s _).setPc _, by decide⟩
  case ret => exact ⟨_, 16, rfl, (DataStep.pop16 s).setPc _, by decide⟩
  case reti => exact ⟨_, 16, rfl, { (DataStep.pop16 s).setPc _ with ime := rfl, eiPending := rfl }, by decide⟩
  case jumpIf cc nn => exact ifCond_cases (·.setPc nn) 16 12 (control_jumpIf s cc nn) (.refl _) (by decide) (by decide)
  case jumpRelIf cc e =>
    exact ifCond_cases (·.jumpRel e) 12 8 (control_jumpRelIf s cc e) (.refl _) (by decide) (by decide)
  case callIf cc nn =>
    exact ifCond_cases (·.call nn) 24 12 (control_callIf s cc nn) ((DataStep.push16 s _).setPc nn) (by decide)
      (by decide)
  case retIf cc =>
    exact ifCond_cases State.ret 20 8 (control_retIf s cc) ((DataStep.pop16 s).setPc _) (by decide) (by decide)
  all_goals exact ⟨_, _, rfl, .refl _, by decide⟩

/-- An unrecognized opcode is the only instruction that counts no cycles (R126). -/
theorem illegal_or_counts (i : Instr) : (∃ op, i = .illegal op) ∨ (shapeOf i).counts = true := by
  cases i
  case illegal op => exact .inl ⟨op, rfl⟩
  all_goals exact .inr rfl

/-- What an instruction can do: an unrecognized opcode records its fault; any other does to the control state what its
shape says, is a data step beside that, and then counts its cycles. -/
theorem exec_cases (i : Instr) (s : State) :
    (∃ op, i = .illegal op ∧ exec i s = .next (s.raiseDecodeFault op (s.pc - 1))) ∨
    ((∀ op, i ≠ .illegal op) ∧ ∃ u n, exec i s = .next (u.cycles n) ∧
      DataStep ((shapeOf i).control s) u ∧ IsCycleCount n) := by
  rcases illegal_or_counts i with ⟨op, rfl⟩ | h
  · exact .inl ⟨op, rfl, rfl⟩
  · obtain ⟨u, n, hrun, hu, hn⟩ := run_cases s h
    refine .inr ⟨?_, u, n, by rw [exec_eq_run, hrun], hu, hn⟩
    rintro op rfl
    exact absurd h Bool.false_ne_true

/-! ### Which instructions change the control state -/

theorem newMode_eq {i : Instr} (hh : i ≠ .halt) (hs : i ≠ .stop) (hi : ∀ op, i ≠ .illegal op) (s : State) :
    (shapeOf i).newMode s = s.mode := by
  cases i
  case halt => exact absurd rfl hh
  case stop => exact absurd rfl hs
  case illegal op => exact absurd rfl (hi op)
  all_goals rfl

theorem newIme_eq {i : Instr} (hd : i ≠ .di) (he : i ≠ .ei) (hr : i ≠ .reti) (s : State) :
    (shapeOf i).newIme s = s.ime ∧ (shapeOf i).newEiPending s = s.eiPending := by
  cases i
  case di => exact absurd rfl hd
  case ei => exact absurd rfl he
  case reti => exact absurd rfl hr
  all_goals exact ⟨rfl, rfl⟩

theorem newSp?_isSome (i : Instr) (s : State) : ((shapeOf i).newSp? s).isSome = mayMoveSp i := by
  cases i <;> rfl

theorem newPc?_isSome (i : Instr) (s : State) : ((shapeOf i).newPc? s).isSome = mayJump i := by
  cases i <;> rfl

theorem newSp?_eq_none {i : Instr} (h : mayMoveSp i = false) (s : State) : (shapeOf i).newSp? s = none := by
  simpa [h] using newSp?_isSome i s

theorem newPc?_eq_none {i : Instr} (h : mayJump i = false) (s : State) : (shapeOf i).newPc? s = none := by
  simpa [h] using newPc?_isSome i s

/-- With EI_DELAY = 0 no shape leaves an EI pending where there was none (R32). -/
theorem newEiPending_of_eiDelay_zero {s : State} (hd : s.cfg.eiDelay = .zero) (he : s.eiPending = .none) (sh : Shape) :
    sh.newEiPending s = .none := by
  cases sh
  case di => simp [Shape.newEiPending, State.disableInterrupts, hd, he]
  case ei => simp [Shape.newEiPending, State.enableInterrupts, hd, he]
  case reti => rfl
  all_goals exact he

theorem control_inv {s : State} (h : s.Inv) (sh : Shape) : (sh.control s).Inv := by
  obtain ⟨hm, hf, he⟩ := h
  exact ⟨hm, hf, fun hd => newEiPending_of_eiDelay_zero (s := s) hd (he hd) sh⟩

theorem exec_inv {i : Instr} {s t : State} (h : s.Inv) (ht : exec i s = .next t) : t.Inv := by
  rcases exec_cases i s with ⟨op, -, hx⟩ | ⟨-, u, n, hx, hu, -⟩
  · cases hx.symm.trans ht
    exact h
  · cases hx.symm.trans ht
    exact hu.inv (control_inv h _)

/-- Settles O10, read from what an instruction can do. -/
theorem everyInstructionCompletes : Obligations.EveryInstructionCompletes := by
  unfold Obligations.EveryInstructionCompletes
  intro i s
  rcases exec_cases i s with ⟨op, rfl, hx⟩ | ⟨hi, u, n, hx, hu, hmin, hmax, hfour⟩
  · refine ⟨_, hx, fun h => absurd rfl (h op), fun op' h => ?_⟩
    cases h
    rfl
  · refine ⟨_, hx, fun _ => ⟨hmin, hmax, hfour, ?_⟩, fun op h => absurd h (hi op)⟩
    exact congrArg (· + n) hu.totalCycles

/-- Settles O14: each part of the control state is what the instruction's shape makes of it. -/
theorem controlStateFrame : Obligations.ControlStateFrame := by
  unfold Obligations.ControlStateFrame
  intro i s t ht
  rcases exec_cases i s with ⟨op, rfl, hx⟩ | ⟨hi, u, n, hx, hu, -⟩
  · cases hx.symm.trans ht
    exact ⟨fun _ _ h => absurd rfl (h op), fun _ _ _ => ⟨rfl, rfl⟩, fun _ => rfl, fun _ => rfl, rfl, fun _ => rfl⟩
  · cases hx.symm.trans ht
    refine ⟨fun hh hs hi => hu.mode.trans (newMode_eq hh hs hi s), fun hd he hr => ?_, fun hsp => ?_, fun hpc => ?_,
      hu.cfg, hu.env⟩
    · obtain ⟨hime, hei⟩ := newIme_eq hd he hr s
      exact ⟨hu.ime.trans hime, hu.eiPending.trans hei⟩
    · have h : u.sp = _ := hu.sp
      simpa [Shape.control, newSp?_eq_none hsp] using h
    · have h : u.pc = _ := hu.pc
      simpa [Shape.control, newPc?_eq_none hpc] using h

end Sys2Proof.Laws

/-! ## Every step keeps the invariant (R22, R32, R50) -/

namespace Sys2Proof.Machine

open Sys2Proof.Laws

/-! ### The parts of a round -/

/-! The invariant reads memory, F, the pending EI and the parameters alone. -/

theorem setSp_inv {s : State} (h : s.Inv) (v : Word) : (s.setSp v).Inv := h
theorem setPc_inv {s : State} (h : s.Inv) (v : Word) : (s.setPc v).Inv := h
theorem setMode_inv {s : State} (h : s.Inv) (m : Mode) : (s.setMode m).Inv := h
theorem cycles_inv {s : State} (h : s.Inv) (n : Nat) : (s.cycles n).Inv := h
theorem moreCycles_inv {s : State} (h : s.Inv) (n : Nat) : (s.moreCycles n).Inv := h
theorem withIme_inv {s : State} (h : s.Inv) (b : Bool) : ({ s with ime := b } : State).Inv := h

theorem memWrite_inv {s : State} (h : s.Inv) (x : Word) (v : Byte) : (s.memWrite x v).Inv :=
  ((DataStep.refl s).memWrite x v).inv h

theorem afterAccess_inv {s : State} (h : s.Inv) : s.afterAccess.Inv := (DataStep.refl s).afterAccess.inv h

theorem landEnv_inv {s : State} (h : s.Inv) : s.landEnv.Inv := by
  obtain ⟨hm, hf, he⟩ := h
  exact ⟨landEnv_wf hm, by rwa [landEnv_f], by rwa [landEnv_cfg, landEnv_eiPending]⟩

theorem fetchByte_inv {s : State} (h : s.Inv) : s.fetchByte.2.Inv := afterAccess_inv (setPc_inv h _)

/-- A fetch is one, two or three byte fetches (R92). -/
theorem fetch_cases (s : State) :
    s.fetch.2 = s.fetchByte.2 ∨ s.fetch.2 = s.fetchByte.2.fetchByte.2 ∨
      s.fetch.2 = s.fetchByte.2.fetchByte.2.fetchByte.2 := by
  rcases hrow : primaryRow s.fetchByte.1 with i | g | g | _ | _
  · exact .inl (by simp [State.fetch, hrow])
  · exact .inr (.inl (by simp [State.fetch, hrow]))
  · exact .inr (.inr (by simp [State.fetch, hrow, State.fetchWord]))
  · cases hl : s.cfg.stopLength with
    | one => exact .inl (by simp [State.fetch, hrow, hl])
    | two => exact .inr (.inl (by simp [State.fetch, hrow, hl]))
  · exact .inr (.inl (by simp [State.fetch, hrow]))

theorem fetch_inv {s : State} (h : s.Inv) : s.fetch.2.Inv := by
  rcases fetch_cases s with hs | hs | hs <;> rw [hs]
  · exact fetchByte_inv h
  · exact fetchByte_inv (fetchByte_inv h)
  · exact fetchByte_inv (fetchByte_inv (fetchByte_inv h))

theorem eiCommit_inv {s : State} (h : s.Inv) : s.eiCommit.Inv := by
  obtain ⟨hm, hf, he⟩ := h
  rcases eiCommit_cases s with hs | ⟨hd, -, hs⟩ | ⟨hd, -, hs⟩ <;> rw [hs]
  · exact ⟨hm, hf, he⟩
  · exact ⟨hm, hf, fun _ => rfl⟩
  · exact ⟨hm, hf, fun h0 => absurd (hd.symm.trans h0) (by decide)⟩

theorem pushAtomic_inv {s : State} (h : s.Inv) (v : Word) : (s.pushAtomic v).Inv :=
  memWrite_inv (setSp_inv (memWrite_inv (setSp_inv h _) _ _) _) _ _

theorem dispatch_inv {s : State} (h : s.Inv) (v : Word) : (s.dispatch v).Inv :=
  moreCycles_inv (setMode_inv (setPc_inv (pushAtomic_inv h _) _) .active) _

theorem haltWake_inv {s : State} (h : s.Inv) : s.haltWake.Inv := by
  rcases haltWake_cases s with hs | ⟨-, -, hs⟩ | ⟨-, -, hs⟩ <;> rw [hs]
  · exact h
  · exact setMode_inv h .active
  · exact setMode_inv h .exited

theorem poll_inv {s : State} (h : s.Inv) : s.poll.Inv := by
  have hc : s.eiCommit.Inv := eiCommit_inv h
  rcases poll_cases s with ⟨k, -, -, hs⟩ | ⟨-, hs⟩ | ⟨-, hs⟩ <;> rw [hs]
  · exact dispatch_inv (withIme_inv (memWrite_inv hc _ _) false) _
  · exact haltWake_inv hc
  · exact hc

theorem endRound_cases (s : State) : s.endRound = s ∨ s.endRound = s.poll := by
  cases hm : s.mode <;> simp [State.endRound, hm]

theorem endRound_inv {s : State} (h : s.Inv) : s.endRound.Inv := by
  rcases endRound_cases s with hs | hs <;> rw [hs]
  · exact h
  · exact poll_inv h

theorem idleRound_inv {s : State} (h : s.Inv) : s.idleRound.Inv := poll_inv (cycles_inv h _)

/-! ### The three kinds of step (R307) -/

theorem step_of_active {s : State} (h : s.mode = .active) :
    step s = .next ((shapeOf s.landEnv.fetch.1).run s.landEnv.fetch.2).endRound := by
  simp [step, State.round, h, exec_eq_run]

theorem step_of_halted {s : State} (h : s.mode = .halted) : step s = .next s.landEnv.idleRound := by
  simp [step, State.round, h]

theorem step_of_ended {s : State} (ha : s.mode ≠ .active) (hh : s.mode ≠ .halted) : step s = .next s := by
  unfold step
  split
  · contradiction
  · contradiction
  · rfl

/-- Settles O56: each part of a step keeps the invariant. -/
theorem stepKeepsTheInvariant : Obligations.StepKeepsTheInvariant := by
  unfold Obligations.StepKeepsTheInvariant
  intro s t hs ht
  by_cases ha : s.mode = .active
  · rw [step_of_active ha] at ht
    cases ht
    exact endRound_inv (exec_inv (fetch_inv (landEnv_inv hs)) (exec_eq_run _ _))
  by_cases hh : s.mode = .halted
  · rw [step_of_halted hh] at ht
    cases ht
    exact idleRound_inv (landEnv_inv hs)
  · rw [step_of_ended ha hh] at ht
    cases ht
    exact hs

/-- Settles O55: right after reset memory is INIT_MEM, F is 0x00 or 0xB0, and no EI is pending (R340, R341). -/
theorem invariantHoldsAtReset : Obligations.InvariantHoldsAtReset := by
  unfold Obligations.InvariantHoldsAtReset
  have h (l : Launch) : (State.resetWith l).Inv := by
    unfold State.resetWith
    split
    · exact ⟨initMemory_wf l, BitVec.zero_and, fun _ => rfl⟩
    · have hf : (0xB0 : Byte) &&& 0x0F = 0x00 := by decide
      exact ⟨Memory.wf_write (x := 0xFF50) (v := 0x01) (initMemory_wf l) (by decide), hf, fun _ => rfl⟩
  exact ⟨h Launch.default, h⟩

end Sys2Proof.Machine

/-! ## The cycle counters influence nothing (R31, R350)

`s.recount n m` is `s` with other counters. Every operation but the counting ones gives the same on it, counters apart, so
it may be moved out of them; a count of cycles sets or adds to the counters and reads nothing else. -/

namespace Sys2Proof.Machine

/-- The state with other cycle counters (R31). -/
def State.recount (s : State) (n m : Nat) : State := { s with stepCycles := n, totalCycles := m }

/-- The second state is the first with other cycle counters. -/
def SameButCounters (s s' : State) : Prop := ∃ n m, s' = s.recount n m

/-! ### Operations that count nothing -/

section
variable (s : State) (n m : Nat)

@[simp] theorem recount_a : (s.recount n m).a = s.a := rfl
@[simp] theorem recount_c : (s.recount n m).c = s.c := rfl
@[simp] theorem recount_mode : (s.recount n m).mode = s.mode := rfl
@[simp] theorem recount_sp : (s.recount n m).sp = s.sp := rfl
@[simp] theorem recount_pc : (s.recount n m).pc = s.pc := rfl
@[simp] theorem recount_cfg : (s.recount n m).cfg = s.cfg := rfl
@[simp] theorem recount_eiPending : (s.recount n m).eiPending = s.eiPending := rfl
@[simp] theorem recount_env : (s.recount n m).env = s.env := rfl
@[simp] theorem recount_flags : (s.recount n m).flags = s.flags := rfl
@[simp] theorem recount_hl : (s.recount n m).hl = s.hl := rfl
@[simp] theorem recount_cond (cc : Cond) : (s.recount n m).cond cc = s.cond cc := rfl
@[simp] theorem recount_memRead (x : Word) : (s.recount n m).memRead x = s.memRead x := rfl
@[simp] theorem recount_inOverlay (x : Word) : (s.recount n m).inOverlay x = s.inOverlay x := rfl
@[simp] theorem recount_pendingEnabled : (s.recount n m).pendingEnabled = s.pendingEnabled := rfl
@[simp] theorem recount_setSp (v : Word) : (s.recount n m).setSp v = (s.setSp v).recount n m := rfl
@[simp] theorem recount_setPc (v : Word) : (s.recount n m).setPc v = (s.setPc v).recount n m := rfl
@[simp] theorem recount_setFlags (fl : Flags) : (s.recount n m).setFlags fl = (s.setFlags fl).recount n m := rfl
@[simp] theorem recount_setHl (v : Word) : (s.recount n m).setHl v = (s.setHl v).recount n m := rfl

@[simp] theorem recount_reg (r : Reg8) : (s.recount n m).reg r = s.reg r := by
  cases r <;> rfl

@[simp] theorem recount_setReg (r : Reg8) (v : Byte) : (s.recount n m).setReg r v = (s.setReg r v).recount n m := by
  cases r <;> rfl

@[simp] theorem recount_pair (p : Pair) : (s.recount n m).pair p = s.pair p := by
  cases p <;> rfl

@[simp] theorem recount_setPair (p : Pair) (v : Word) : (s.recount n m).setPair p v = (s.setPair p v).recount n m := by
  cases p <;> rfl

@[simp] theorem recount_stackPair (p : StackPair) : (s.recount n m).stackPair p = s.stackPair p := by
  cases p <;> rfl

@[simp] theorem recount_setStackPair (p : StackPair) (v : Word) :
    (s.recount n m).setStackPair p v = (s.setStackPair p v).recount n m := by
  cases p <;> rfl

@[simp] theorem recount_memWrite (x : Word) (v : Byte) :
    (s.recount n m).memWrite x v = (s.memWrite x v).recount n m := by
  unfold State.memWrite
  rw [recount_inOverlay, recount_cfg]
  split
  · split <;> rfl
  · rfl

@[simp] theorem recount_applyEnv (act : EnvAct) : (s.recount n m).applyEnv act = (s.applyEnv act).recount n m := by
  cases act with
  | write x v =>
    by_cases hx : x = ieAddr <;> simp [State.applyEnv, State.envWrite, hx]
  | post k => simp [State.applyEnv, State.postInterrupt]

@[simp] theorem recount_applyEnvs (acts : List EnvAct) :
    (s.recount n m).applyEnvs acts = (s.applyEnvs acts).recount n m := by
  induction acts generalizing s with
  | nil => rfl
  | cons act acts ih =>
    have h := ih (s.applyEnv act)
    rwa [← recount_applyEnv] at h

@[simp] theorem recount_landEnv : (s.recount n m).landEnv = s.landEnv.recount n m := by
  unfold State.landEnv
  rw [recount_env]
  split
  · rfl
  · rename_i acts later _
    exact recount_applyEnvs { s with env := later } n m acts

@[simp] theorem recount_afterAccess : (s.recount n m).afterAccess = s.afterAccess.recount n m := by
  cases h : s.cfg.envWritePoints <;> simp [State.afterAccess, h]

@[simp] theorem recount_store (x : Word) (v : Byte) : (s.recount n m).store x v = (s.store x v).recount n m := by
  simp [State.store]

@[simp] theorem recount_load (r : Reg8) (x : Word) : (s.recount n m).load r x = (s.load r x).recount n m := by
  simp [State.load]

@[simp] theorem recount_stepHl (d : Word) : (s.recount n m).stepHl d = (s.stepHl d).recount n m := rfl

@[simp] theorem recount_value (p : Place) : (s.recount n m).value p = s.value p := by
  cases p <;> simp [State.value]

@[simp] theorem recount_afterRead (p : Place) : (s.recount n m).afterRead p = (s.afterRead p).recount n m := by
  cases p <;> simp [State.afterRead]

@[simp] theorem recount_put (p : Place) (v : Byte) : (s.recount n m).put p v = (s.put p v).recount n m := by
  cases p <;> simp [State.put]

@[simp] theorem recount_alu (op : AluOp) (v : Byte) : (s.recount n m).alu op v = (s.alu op v).recount n m := by
  cases op <;> rfl

@[simp] theorem recount_aluPlace (op : AluOp) (p : Place) :
    (s.recount n m).aluPlace op p = (s.aluPlace op p).recount n m := by
  simp [State.aluPlace]

@[simp] theorem recount_modify8 (p : Place) (g : Byte → Flags → Res8) :
    (s.recount n m).modify8 p g = (s.modify8 p g).recount n m := by
  simp [State.modify8]

@[simp] theorem recount_modifyQuiet (p : Place) (g : Byte → Byte) :
    (s.recount n m).modifyQuiet p g = (s.modifyQuiet p g).recount n m := by
  simp [State.modifyQuiet]

@[simp] theorem recount_bitTest (b : Fin 8) (p : Place) :
    (s.recount n m).bitTest b p = (s.bitTest b p).recount n m := by
  simp [State.bitTest]

@[simp] theorem recount_write16 (x v : Word) : (s.recount n m).write16 x v = (s.write16 x v).recount n m := by
  simp [State.write16]

@[simp] theorem recount_push16 (v : Word) : (s.recount n m).push16 v = (s.push16 v).recount n m := by
  simp [State.push16]

@[simp] theorem recount_pop16 : (s.recount n m).pop16 = (s.pop16.1, s.pop16.2.recount n m) := by
  simp [State.pop16]

@[simp] theorem recount_pushAtomic (v : Word) : (s.recount n m).pushAtomic v = (s.pushAtomic v).recount n m := by
  simp [State.pushAtomic]

@[simp] theorem recount_call (x : Word) : (s.recount n m).call x = (s.call x).recount n m := by
  simp [State.call]

@[simp] theorem recount_ret : (s.recount n m).ret = s.ret.recount n m := by
  simp [State.ret]

theorem recount_returnFromInterrupt : (s.recount n m).returnFromInterrupt = s.returnFromInterrupt.recount n m := by
  simp only [State.returnFromInterrupt, recount_pop16]
  rfl

theorem recount_disableInterrupts : (s.recount n m).disableInterrupts = s.disableInterrupts.recount n m := by
  cases h : s.cfg.eiDelay <;> simp only [State.disableInterrupts, recount_cfg, h] <;> rfl

theorem recount_enableInterrupts : (s.recount n m).enableInterrupts = s.enableInterrupts.recount n m := by
  unfold State.enableInterrupts
  rw [recount_cfg, recount_eiPending]
  split
  · rfl
  · split <;> rfl

/-! ### A round -/

@[simp] theorem recount_fetchByte : (s.recount n m).fetchByte = (s.fetchByte.1, s.fetchByte.2.recount n m) := by
  simp [State.fetchByte]

@[simp] theorem recount_fetchWord : (s.recount n m).fetchWord = (s.fetchWord.1, s.fetchWord.2.recount n m) := by
  simp [State.fetchWord]

@[simp] theorem recount_fetch : (s.recount n m).fetch = (s.fetch.1, s.fetch.2.recount n m) := by
  rcases hrow : primaryRow s.fetchByte.1 with i | g | g | _ | _
  · simp [State.fetch, hrow]
  · simp [State.fetch, hrow]
  · simp [State.fetch, hrow]
  · cases hl : s.cfg.stopLength <;> simp [State.fetch, hrow, hl]
  · simp [State.fetch, hrow]

@[simp] theorem recount_eiCommit : (s.recount n m).eiCommit = s.eiCommit.recount n m := by
  unfold State.eiCommit
  rw [recount_cfg, recount_eiPending]
  split
  · rfl
  · split <;> rfl

@[simp] theorem recount_haltWake : (s.recount n m).haltWake = s.haltWake.recount n m := by
  have hw : (s.recount n m).wakeImpossible = s.wakeImpossible := rfl
  unfold State.haltWake
  rw [hw, recount_pendingEnabled, recount_cfg]
  split
  · rfl
  · split <;> rfl

theorem recount_arbiter : (s.recount n m).arbiter = (s.arbiter.1, s.arbiter.2.recount n m) := by
  have hi : (s.recount n m).ime = s.ime := rfl
  unfold State.arbiter
  rw [hi, recount_pendingEnabled]
  split
  · split
    · rfl
    · rw [recount_memRead, recount_memWrite]
      rfl
  · rfl

end

/-! ### Operations that count -/

namespace SameButCounters

variable {s s' : State}

theorem cycles (h : SameButCounters s s') (k : Nat) : SameButCounters (s.cycles k) (s'.cycles k) := by
  obtain ⟨n, m, rfl⟩ := h
  exact ⟨k, m + k, rfl⟩

theorem moreCycles (h : SameButCounters s s') (k : Nat) : SameButCounters (s.moreCycles k) (s'.moreCycles k) := by
  obtain ⟨n, m, rfl⟩ := h
  exact ⟨n + k, m + k, rfl⟩

theorem ifCond {cc : Cond} (taken : State → State) {k l : Nat} (h : SameButCounters s s')
    (ht : SameButCounters (taken s) (taken s')) : SameButCounters (s.ifCond cc taken k l) (s'.ifCond cc taken k l) := by
  have hc : s'.cond cc = s.cond cc := by
    obtain ⟨n, m, rfl⟩ := h
    rfl
  unfold State.ifCond
  rw [hc]
  split
  · exact ht.cycles k
  · exact h.cycles l

theorem extended (h : SameButCounters s s') (op2 : Byte) : SameButCounters (s.extended op2) (s'.extended op2) := by
  obtain ⟨n, m, rfl⟩ := h
  refine cycles ⟨n, m, ?_⟩ _
  split <;> simp

theorem dispatch (h : SameButCounters s s') (v : Word) : SameButCounters (s.dispatch v) (s'.dispatch v) := by
  obtain ⟨n, m, rfl⟩ := h
  refine moreCycles ⟨n, m, ?_⟩ _
  rw [recount_pc, recount_pushAtomic]
  rfl

theorem poll (h : SameButCounters s s') : SameButCounters s.poll s'.poll := by
  obtain ⟨n, m, rfl⟩ := h
  unfold State.poll
  rw [recount_eiCommit, recount_arbiter]
  rcases s.eiCommit.arbiter with ⟨_ | v, t⟩
  · by_cases hm : t.mode = .halted
    · exact ⟨n, m, by simp [hm]⟩
    · exact ⟨n, m, by simp [hm]⟩
  · exact dispatch ⟨n, m, rfl⟩ v

theorem endRound (h : SameButCounters s s') : SameButCounters s.endRound s'.endRound := by
  have hp := h.poll
  obtain ⟨n, m, rfl⟩ := h
  cases hm : s.mode with
  | fault op x => exact ⟨n, m, by simp [State.endRound, hm]⟩
  | stopped => exact ⟨n, m, by simp [State.endRound, hm]⟩
  | active | halted | exited => simpa [State.endRound, hm] using hp

theorem idleRound (h : SameButCounters s s') : SameButCounters s.idleRound s'.idleRound := by
  have hc := h.cycles s.cfg.haltIdleCycles
  obtain ⟨n, m, rfl⟩ := h
  exact hc.poll

end SameButCounters
end Sys2Proof.Machine

namespace Sys2Proof.Laws

open Sys2Proof.Machine

/-- A shape does the same whatever the counters are. -/
theorem run_sameButCounters {s s' : State} (h : SameButCounters s s') (sh : Shape) :
    SameButCounters (sh.run s) (sh.run s') := by
  have hs : SameButCounters s s' := h
  obtain ⟨n, m, rfl⟩ := h
  cases sh
  case illegal op => exact ⟨n, m, rfl⟩
  case prefixCb op2 => exact hs.extended op2
  case jumpIf cc nn => exact hs.ifCond (·.setPc nn) ⟨n, m, rfl⟩
  case jumpRelIf cc e => exact hs.ifCond (·.jumpRel e) ⟨n, m, rfl⟩
  case callIf cc nn => exact hs.ifCond (·.call nn) ⟨n, m, recount_call s n m nn⟩
  case retIf cc => exact hs.ifCond State.ret ⟨n, m, recount_ret s n m⟩
  case di => exact .cycles ⟨n, m, recount_disableInterrupts s n m⟩ 4
  case ei => exact .cycles ⟨n, m, recount_enableInterrupts s n m⟩ 4
  case reti => exact .cycles ⟨n, m, recount_returnFromInterrupt s n m⟩ 16
  case nop | stop | halt | spFromHl | hlFromSpRel | addSpRel | addHl | daa | rotA | cpl | scf | ccf | jump | jumpHl |
      jumpRel =>
    exact .cycles ⟨n, m, rfl⟩ _
  all_goals exact .cycles ⟨n, m, by simp⟩ _

/-- Settles O57: each part of a step gives the same, counters apart, on two states that differ in the counters alone. -/
theorem countersInfluenceNothing : Obligations.CountersInfluenceNothing := by
  unfold Obligations.CountersInfluenceNothing
  intro s t n m ht
  have hl : SameButCounters s.landEnv (s.recount n m).landEnv := ⟨n, m, recount_landEnv s n m⟩
  change ∃ n' m', step (s.recount n m) = .next (t.recount n' m')
  suffices h : ∃ t', step (s.recount n m) = .next t' ∧ SameButCounters t t' by
    obtain ⟨t', ht', n', m', rfl⟩ := h
    exact ⟨n', m', ht'⟩
  by_cases ha : s.mode = .active
  · rw [step_of_active ha] at ht
    cases ht
    have hf : (s.recount n m).landEnv.fetch = (s.landEnv.fetch.1, s.landEnv.fetch.2.recount n m) := by simp
    refine ⟨_, step_of_active ha, ?_⟩
    rw [hf]
    exact (run_sameButCounters ⟨n, m, rfl⟩ _).endRound
  by_cases hh : s.mode = .halted
  · rw [step_of_halted hh] at ht
    cases ht
    exact ⟨_, step_of_halted hh, hl.idleRound⟩
  · rw [step_of_ended ha hh] at ht
    cases ht
    exact ⟨_, step_of_ended ha hh, n, m, rfl⟩

end Sys2Proof.Laws

/-! ## The pairs of the register file, and IE (R23, R24, R33, R302) -/

namespace Sys2Proof.Machine

/-! ### The two bytes of a word -/

theorem hiByte_eq (v : Word) : hiByte v = (v >>> 8).setWidth 8 := by
  ext i hi
  simp [hiByte]

theorem loByte_eq (v : Word) : loByte v = v.setWidth 8 := by
  ext i hi
  simp [loByte]

theorem join_hiByte_loByte (v : Word) : join (hiByte v) (loByte v) = v :=
  (BitVec.extractLsb'_append_extractLsb'_eq_extractLsb' rfl).trans BitVec.extractLsb'_eq_self

/-- AF reads back with the low nibble clear (R24). -/
theorem join_masked (v : Word) : join (hiByte v) (loByte v &&& 0xF0) = v &&& 0xFFF0 := by
  have hmask : (0xFFF0 : Word) = BitVec.allOnes 8 ++ (0xF0 : Byte) := rfl
  conv_rhs => rw [← join_hiByte_loByte v, hmask, join, BitVec.and_append, BitVec.and_allOnes]
  rfl

/-- Settles O41: a pair written is split into its bytes, and reading it joins them. -/
theorem pairsReadBackWhatWasWritten : Obligations.PairsReadBackWhatWasWritten := by
  unfold Obligations.PairsReadBackWhatWasWritten
  intro s v
  exact ⟨hiByte_eq v, congrArg (· &&& 0xF0) (loByte_eq v), join_masked v, join_hiByte_loByte v,
    join_hiByte_loByte v, join_hiByte_loByte v⟩

/-! ### The port at IE -/

/-- At 0x0100 and above the port reads the array (R51). -/
theorem memRead_of_high {s : State} {x : Word} (h : 256 ≤ x.toNat) : s.memRead x = Memory.read s.mem x.toNat := by
  have ho : s.inOverlay x = false := by simp [State.inOverlay]; omega
  simp [State.memRead, ho]

/-- At 0x0100 and above the port writes the array (R52). -/
theorem memWrite_of_high {s : State} {x : Word} (h : 256 ≤ x.toNat) (v : Byte) :
    s.memWrite x v = { s with mem := Memory.write s.mem x.toNat v } := by
  have ho : s.inOverlay x = false := by simp [State.inOverlay]; omega
  simp [State.memWrite, ho]

/-- A write to another address leaves the array's byte at `x` alone. -/
theorem read_mem_memWrite_ne {s : State} {x y : Word} (h : y ≠ x) (v : Byte) :
    Memory.read (s.memWrite x v).mem y.toNat = Memory.read s.mem y.toNat := by
  unfold State.memWrite
  split
  · split <;> rfl
  · exact Memory.read_write_ne fun e => h (BitVec.eq_of_toNat_eq e)

theorem memRead_ieAddr (s : State) : s.memRead ieAddr = Memory.read s.mem ieAddr.toNat := memRead_of_high (by decide)

theorem memRead_ieAddr_congr {s t : State} (h : t.mem = s.mem) : t.memRead ieAddr = s.memRead ieAddr := by
  rw [memRead_ieAddr, memRead_ieAddr, h]

/-- IE stores every bit written to it (R33). -/
theorem memRead_memWrite_ieAddr (s : State) (v : Byte) : (s.memWrite ieAddr v).memRead ieAddr = v := by
  rw [memWrite_of_high (by decide), memRead_ieAddr]
  exact Memory.read_write_same _ _ _

theorem memWrite_keeps_ie {s : State} {x : Word} (h : ieAddr ≠ x) (v : Byte) :
    (s.memWrite x v).memRead ieAddr = s.memRead ieAddr := by
  rw [memRead_ieAddr, memRead_ieAddr, read_mem_memWrite_ne h]

/-! ### Who leaves IE alone -/

theorem envWrite_keeps_ie (s : State) (x : Word) (v : Byte) : (s.envWrite x v).memRead ieAddr = s.memRead ieAddr := by
  unfold State.envWrite
  split
  · rfl
  · rename_i h
    exact memWrite_keeps_ie (Ne.symm h) v

theorem postInterrupt_keeps_ie (s : State) (k : IrqSource) : (s.postInterrupt k).memRead ieAddr = s.memRead ieAddr :=
  memWrite_keeps_ie (by decide) _

theorem applyEnv_keeps_ie (s : State) (act : EnvAct) : (s.applyEnv act).memRead ieAddr = s.memRead ieAddr := by
  cases act with
  | write x v => exact envWrite_keeps_ie s x v
  | post k => exact postInterrupt_keeps_ie s k

theorem applyEnvs_keeps_ie (acts : List EnvAct) (s : State) :
    (s.applyEnvs acts).memRead ieAddr = s.memRead ieAddr := by
  induction acts generalizing s with
  | nil => rfl
  | cons act acts ih => exact (ih (s.applyEnv act)).trans (applyEnv_keeps_ie s act)

theorem landEnv_keeps_ie (s : State) : s.landEnv.memRead ieAddr = s.memRead ieAddr := by
  unfold State.landEnv
  split
  · rfl
  · exact applyEnvs_keeps_ie _ _

theorem arbiter_keeps_ie (s : State) : s.arbiter.2.memRead ieAddr = s.memRead ieAddr := by
  rcases arbiter_cases s with h | ⟨k, -, -, h⟩ <;> rw [h]
  exact memWrite_keeps_ie (by decide) _

theorem eiCommit_mem (s : State) : s.eiCommit.mem = s.mem := by
  rcases eiCommit_cases s with h | ⟨-, -, h⟩ | ⟨-, -, h⟩ <;> rw [h]

theorem eiCommit_sp (s : State) : s.eiCommit.sp = s.sp := by
  rcases eiCommit_cases s with h | ⟨-, -, h⟩ | ⟨-, -, h⟩ <;> rw [h]

theorem haltWake_mem (s : State) : s.haltWake.mem = s.mem := by
  rcases haltWake_cases s with h | ⟨-, -, h⟩ | ⟨-, -, h⟩ <;> rw [h]

@[simp] theorem dispatch_sp (s : State) (v : Word) : (s.dispatch v).sp = s.sp - 2 := by
  obtain ⟨m, o, h⟩ := dispatch_eq s v
  rw [h]

/-- A poll that leaves SP alone took no interrupt, and leaves memory alone. -/
theorem poll_mem_of_sp {s : State} (h : s.poll.sp = s.sp) : s.poll.mem = s.mem := by
  rcases poll_cases s with ⟨k, -, -, hp⟩ | ⟨-, hp⟩ | ⟨-, hp⟩
  · have hsp : s.poll.sp = s.sp - 2 := by simp [hp, eiCommit_sp]
    exact absurd (hsp.symm.trans h) (by bv_omega)
  · rw [hp, haltWake_mem, eiCommit_mem]
  · rw [hp, eiCommit_mem]

/-- A halted step that takes no interrupt leaves IE alone (R307). -/
theorem halted_step_keeps_ie {s t : State} (hm : s.mode = .halted) (ht : step s = .next t) (hsp : t.sp = s.sp) :
    t.memRead ieAddr = s.memRead ieAddr := by
  rw [step_of_halted hm] at ht
  cases ht
  have hpoll : s.landEnv.idleRound.sp = s.landEnv.sp := by rw [hsp, landEnv_sp]
  have hmem : s.landEnv.idleRound.mem = s.landEnv.mem := poll_mem_of_sp hpoll
  rw [memRead_ieAddr_congr hmem, landEnv_keeps_ie]

/-- A request is pending and enabled when its bits of IE and IF are set (R302, R303). -/
theorem pendingEnabled_getLsbD (s : State) (k : Nat) :
    s.pendingEnabled.getLsbD k = (decide (k < 5) && (s.memRead ieAddr).getLsbD k && (s.memRead ifAddr).getLsbD k) := by
  have hmask : (0x1F : Byte).getLsbD k = decide (k < 5) := by
    rcases Nat.lt_or_ge k 8 with h | h
    · revert k
      decide
    · rw [BitVec.getLsbD_of_ge _ _ h, eq_comm, decide_eq_false_iff_not]
      omega
  rw [State.pendingEnabled, BitVec.getLsbD_and, BitVec.getLsbD_and, hmask]
  ac_rfl

/-- An environment write or a posted request of the host leaves IE alone (R63, R306). -/
theorem apply_env_keeps_ie {x y : Session} {a : Word} {v : Byte} {src : IrqSource}
    (h : x.apply (.envWrite a v) = .next y ∨ x.apply (.postInterrupt src) = .next y) :
    y.state.memRead ieAddr = x.state.memRead ieAddr := by
  unfold Session.apply at h
  cases hp : x.phase <;> simp only [hp, reduceCtorEq, or_self, Host.Outcome.next.injEq] at h
  all_goals
    rcases h with rfl | rfl
    · exact envWrite_keeps_ie _ _ _
    · exact postInterrupt_keeps_ie _ _

/-- Settles O49, one lemma for each agent that may not write IE. -/
theorem onlySoftwareWritesIe : Obligations.OnlySoftwareWritesIe := by
  unfold Obligations.OnlySoftwareWritesIe
  intro s t v k act x y a src
  exact ⟨memRead_memWrite_ieAddr s v, pendingEnabled_getLsbD s k, applyEnv_keeps_ie s act, landEnv_keeps_ie s,
    arbiter_keeps_ie s, apply_env_keeps_ie, halted_step_keeps_ie⟩

end Sys2Proof.Machine

/-! ## The memory port, the stack and the frame of memory (R50 to R69)

`OnlyStores l s t` says that from `s` to `t` the two stores behind the port change at the addresses of `l` at most;
`Shape.stores` is where a shape stores, and `run_onlyStores` that no shape stores elsewhere. -/

namespace Sys2Proof.Machine

/-! ### The canonical form of memory is unique (R50) -/

namespace Memory

theorem wfFrom_cons {lo a : Nat} {v : Byte} {m : Memory} :
    wfFrom lo ((a, v) :: m) = true ↔ lo ≤ a ∧ a < 65536 ∧ v ≠ unlisted ∧ wfFrom (a + 1) m = true := by
  simp [wfFrom, and_assoc]

theorem le_of_read_ne {m : Memory} {lo x : Nat} (hm : wfFrom lo m = true) (h : read m x ≠ unlisted) : lo ≤ x := by
  induction m generalizing lo with
  | nil => exact absurd rfl h
  | cons c m ih =>
    obtain ⟨hlo, -, -, hm⟩ := wfFrom_cons.mp hm
    by_cases hc : c.1 = x
    · exact hc ▸ hlo
    · have := ih hm (by simpa [read, hc] using h)
      omega

/-- The lowest listed address of a memory is not below that of another that reads like it. -/
theorem head_le_of_read_eq {a a' lo lo' : Nat} {v v' : Byte} {m m' : Memory} (hm : wfFrom lo ((a, v) :: m) = true)
    (hm' : wfFrom lo' ((a', v') :: m') = true) (h : read ((a, v) :: m) a = read ((a', v') :: m') a) : a' ≤ a := by
  obtain ⟨-, -, hv, -⟩ := wfFrom_cons.mp hm
  obtain ⟨-, hrest⟩ := wfFrom_cons.mp hm'
  refine le_of_read_ne (wfFrom_cons.mpr ⟨le_refl a', hrest⟩) ?_
  rw [← h]
  simpa [read] using hv

/-- Canonical memories that read alike from their lowest address on are equal. -/
theorem eq_of_read_eq {m m' : Memory} {lo : Nat} (hm : wfFrom lo m = true) (hm' : wfFrom lo m' = true)
    (h : ∀ x, lo ≤ x → x < 65536 → read m x = read m' x) : m = m' := by
  induction m generalizing lo m' with
  | nil =>
    cases m' with
    | nil => rfl
    | cons c' m' =>
      obtain ⟨hlo, hb, hv, -⟩ := wfFrom_cons.mp hm'
      exact absurd (by simpa [read] using (h c'.1 hlo hb).symm) hv
  | cons c m ih =>
    obtain ⟨a, v⟩ := c
    obtain ⟨hlo, hb, hv, hrest⟩ := wfFrom_cons.mp hm
    cases m' with
    | nil => exact absurd (by simpa [read] using h a hlo hb) hv
    | cons c' m' =>
      obtain ⟨a', v'⟩ := c'
      obtain ⟨hlo', hb', -, hrest'⟩ := wfFrom_cons.mp hm'
      have ha : a = a' := le_antisymm (head_le_of_read_eq hm' hm (h a' hlo' hb').symm)
        (head_le_of_read_eq hm hm' (h a hlo hb))
      subst ha
      have hvv : v = v' := by simpa [read] using h a hlo hb
      have htail : m = m' := ih hrest hrest' fun x hx hxb => by
        have hax : a ≠ x := by omega
        simpa [read, hax] using h x (by omega) hxb
      rw [hvv, htail]

end Memory

/-- Settles O38: the lowest listed addresses agree, and then the bytes there and the rest. -/
theorem canonicalMemoryIsUnique : Obligations.CanonicalMemoryIsUnique := by
  unfold Obligations.CanonicalMemoryIsUnique
  intro m m' hm hm' h
  exact Memory.eq_of_read_eq hm hm' fun x _ hx => h x hx

/-! ### The memory port (R51 to R54) -/

/-- The address is below 0x0100 and the latch is zero, where the boot overlay answers (R51). -/
theorem inOverlay_iff {s : State} {x : Word} :
    s.inOverlay x = true ↔ x.toNat < 256 ∧ Memory.read s.mem 0xFF50 = 0 := by
  simp only [State.inOverlay, Bool.and_eq_true, decide_eq_true_eq]
  exact and_congr_left' Nat.lt_succ_iff.symm

theorem inOverlay_eq_false {s : State} {x : Word} (h : 256 ≤ x.toNat ∨ Memory.read s.mem 0xFF50 ≠ 0) :
    s.inOverlay x = false := by
  rw [Bool.eq_false_iff, ne_eq, inOverlay_iff]
  rintro ⟨hx, hl⟩
  exact h.elim (fun h => absurd hx (by omega)) fun h => h hl

theorem bootIndex_val {x : Word} (h : x.toNat < 256) : (bootIndex x).val = x.toNat := Nat.mod_eq_of_lt h

theorem memRead_overlay {s : State} {x : Word} (hx : x.toNat < 256) (hl : Memory.read s.mem 0xFF50 = 0) :
    s.memRead x = s.boot[x.toNat] := by
  simp [State.memRead, inOverlay_iff.mpr ⟨hx, hl⟩, Vector.get_eq_getElem, bootIndex_val hx]

theorem memRead_array {s : State} {x : Word} (h : 256 ≤ x.toNat ∨ Memory.read s.mem 0xFF50 ≠ 0) :
    s.memRead x = Memory.read s.mem x.toNat := by
  simp [State.memRead, inOverlay_eq_false h]

theorem memWrite_redirected {s : State} {x : Word} (hx : x.toNat < 256) (hl : Memory.read s.mem 0xFF50 = 0)
    (hr : s.cfg.bootOverlayWrites = .redirect) (v : Byte) :
    s.memWrite x v = { s with boot := s.boot.set x.toNat v } := by
  simp [State.memWrite, inOverlay_iff.mpr ⟨hx, hl⟩, hr, bootIndex_val hx]

theorem memWrite_ignored {s : State} {x : Word} (hx : x.toNat < 256) (hl : Memory.read s.mem 0xFF50 = 0)
    (hi : s.cfg.bootOverlayWrites = .ignore) (v : Byte) : s.memWrite x v = s := by
  simp [State.memWrite, inOverlay_iff.mpr ⟨hx, hl⟩, hi]

theorem memWrite_array {s : State} {x : Word} (h : 256 ≤ x.toNat ∨ Memory.read s.mem 0xFF50 ≠ 0) (v : Byte) :
    s.memWrite x v = { s with mem := Memory.write s.mem x.toNat v } := by
  simp [State.memWrite, inOverlay_eq_false h]

/-- Settles O35, one lemma for each way an access can go. -/
theorem portReadsAndWrites : Obligations.PortReadsAndWrites := by
  unfold Obligations.PortReadsAndWrites
  intro s x v
  exact ⟨fun hx hl => ⟨memRead_overlay hx hl, fun hr => memWrite_redirected hx hl hr v,
    fun hi => memWrite_ignored hx hl hi v⟩, fun h => ⟨memRead_array h, memWrite_array h v⟩⟩

/-- The latch lies above the overlay, so a write to it reaches the array (R52). -/
theorem memWrite_latch (s : State) (v : Byte) :
    s.memWrite 0xFF50 v = { s with mem := Memory.write s.mem 0xFF50 v } :=
  memWrite_of_high (by decide) v

/-- Settles O36: the byte written to the latch is the one the next access inspects. -/
theorem latchSwitchesTheOverlay : Obligations.LatchSwitchesTheOverlay := by
  unfold Obligations.LatchSwitchesTheOverlay
  intro s v x hx
  have hlatch : Memory.read (s.memWrite 0xFF50 v).mem 0xFF50 = v := by
    rw [memWrite_latch]
    exact Memory.read_write_same _ _ _
  constructor
  · intro hv
    rw [memRead_array (.inr (hlatch.trans_ne hv)), memWrite_latch]
    exact Memory.read_write_ne (by omega)
  · intro hv
    rw [memRead_overlay hx (hlatch.trans hv)]
    simp only [memWrite_latch]

/-! ### Where the two stores change (R62) -/

/-- From `s` to `t` the array and the overlay store keep their bytes at every address outside `l`. -/
structure OnlyStores (l : List Word) (s t : State) : Prop where
  mem : ∀ x ∉ l, Memory.read t.mem x.toNat = Memory.read s.mem x.toNat
  boot : ∀ x ∉ l, ∀ h : x.toNat < 256, t.boot[x.toNat] = s.boot[x.toNat]

/-- The two states have the same two stores. -/
def SameStores (s t : State) : Prop := t.mem = s.mem ∧ t.boot = s.boot

theorem SameStores.onlyStores {s t : State} (h : SameStores s t) (l : List Word) : OnlyStores l s t := by
  obtain ⟨hm, hb⟩ := h
  exact ⟨fun x _ => by rw [hm], fun x _ _ => by simp only [hb]⟩

theorem memWrite_onlyStores (s : State) (x : Word) (v : Byte) : OnlyStores [x] s (s.memWrite x v) := by
  constructor
  · intro y hy
    exact read_mem_memWrite_ne (by simpa using hy) v
  · intro y hy h
    have hne : ¬ y = x := by simpa using hy
    unfold State.memWrite
    split
    case isTrue ho =>
      obtain ⟨hx, -⟩ := inOverlay_iff.mp ho
      split
      · exact Vector.getElem_set_ne (bootIndex x).isLt h fun he =>
          hne (BitVec.eq_of_toNat_eq (he.symm.trans (bootIndex_val hx)))
      · rfl
    case isFalse => rfl

namespace OnlyStores

variable {l l' : List Word} {s t u : State}

theorem trans (h : OnlyStores l s t) (h' : OnlyStores l' t u) : OnlyStores (l ++ l') s u := by
  constructor
  · intro x hx
    obtain ⟨hl, hl'⟩ := not_or.mp (mt List.mem_append.mpr hx)
    rw [h'.mem x hl', h.mem x hl]
  · intro x hx hb
    obtain ⟨hl, hl'⟩ := not_or.mp (mt List.mem_append.mpr hx)
    rw [h'.boot x hl' hb, h.boot x hl hb]

/-- What changes neither store after it may follow. -/
theorem andThen (h : OnlyStores l s t) (h' : SameStores t u) : OnlyStores l s u :=
  List.append_nil l ▸ h.trans (h'.onlyStores [])

theorem refl (s : State) : OnlyStores [] s s := SameStores.onlyStores ⟨rfl, rfl⟩ []

theorem cycles (h : OnlyStores l s t) (n : Nat) : OnlyStores l s (t.cycles n) := h.andThen ⟨rfl, rfl⟩

theorem setHl (h : OnlyStores l s t) (v : Word) : OnlyStores l s (t.setHl v) := h.andThen ⟨rfl, rfl⟩

theorem setPc (h : OnlyStores l s t) (v : Word) : OnlyStores l s (t.setPc v) := h.andThen ⟨rfl, rfl⟩

/-- An address that is not stored to reads as before, but below 0x0100 when the latch may have changed (R53). -/
theorem memRead (h : OnlyStores l s t) {x : Word} (hx : x ∉ l) (hlatch : 0xFF50 ∉ l ∨ 256 ≤ x.toNat) :
    t.memRead x = s.memRead x := by
  by_cases hhigh : 256 ≤ x.toNat
  · rw [memRead_of_high hhigh, memRead_of_high hhigh, h.mem x hx]
  · have hlow : x.toNat < 256 := by omega
    have hl : Memory.read t.mem 0xFF50 = Memory.read s.mem 0xFF50 := h.mem 0xFF50 (hlatch.resolve_right hhigh)
    by_cases hz : Memory.read s.mem 0xFF50 = 0
    · rw [memRead_overlay hlow hz, memRead_overlay hlow (hl.trans hz), h.boot x hx hlow]
    · rw [memRead_array (.inr hz), memRead_array (.inr (hl.trans_ne hz)), h.mem x hx]

end OnlyStores

/-- A write at `x` is not dropped in the overlay (R52). -/
def State.keepsWrite (s : State) (x : Word) : Prop :=
  s.cfg.bootOverlayWrites = .redirect ∨ 256 ≤ x.toNat ∨ Memory.read s.mem 0xFF50 ≠ 0

/-- A byte that is not dropped reads back. -/
theorem memRead_memWrite_same {s : State} {x : Word} (h : s.keepsWrite x) (v : Byte) :
    (s.memWrite x v).memRead x = v := by
  by_cases ho : x.toNat < 256 ∧ Memory.read s.mem 0xFF50 = 0
  · obtain ⟨hx, hl⟩ := ho
    have hr : s.cfg.bootOverlayWrites = .redirect :=
      h.resolve_right fun h => h.elim (fun h => absurd hx (by omega)) fun h => h hl
    rw [memWrite_redirected hx hl hr]
    refine (memRead_overlay hx ?_).trans (Vector.getElem_set_self hx)
    exact hl
  · have ha : 256 ≤ x.toNat ∨ Memory.read s.mem 0xFF50 ≠ 0 := by
      rw [not_and_or, not_lt] at ho
      exact ho
    have ha' : 256 ≤ x.toNat ∨ Memory.read (s.memWrite x v).mem 0xFF50 ≠ 0 := by
      by_cases hx : 256 ≤ x.toNat
      · exact .inl hx
      · have hne : (0xFF50 : Word) ≠ x := by bv_omega
        exact .inr ((read_mem_memWrite_ne hne v).trans_ne (ha.resolve_left hx))
    rw [memRead_array ha', memWrite_array ha]
    exact Memory.read_write_same _ _ _

theorem memRead_memWrite_ne {s : State} {x y : Word} (hy : y ≠ x) (hlatch : x ≠ 0xFF50 ∨ 256 ≤ y.toNat) (v : Byte) :
    (s.memWrite x v).memRead y = s.memRead y :=
  (memWrite_onlyStores s x v).memRead (by simpa using hy) (hlatch.imp_left fun h => by simpa using h.symm)

/-- Settles O37: what is written reads back, and a write stores at its own address alone. -/
theorem writeChangesOneByte : Obligations.WriteChangesOneByte := by
  unfold Obligations.WriteChangesOneByte
  intro s x y v
  exact ⟨fun h => memRead_memWrite_same h v, fun hy hlatch => memRead_memWrite_ne hy hlatch v⟩

/-! ### The stack (R58 to R60)

The port and the environment do not read SP, so where a push or a pop moves it makes no difference. -/

theorem setSp_memWrite (s : State) (w x : Word) (v : Byte) :
    (s.setSp w).memWrite x v = (s.memWrite x v).setSp w := by
  have ho : (s.setSp w).inOverlay x = s.inOverlay x := rfl
  unfold State.memWrite
  rw [ho, setSp_cfg]
  split
  · split <;> rfl
  · rfl

theorem setSp_applyEnv (s : State) (w : Word) (act : EnvAct) : (s.setSp w).applyEnv act = (s.applyEnv act).setSp w := by
  cases act with
  | write x v =>
    by_cases hx : x = ieAddr
    · simp [State.applyEnv, State.envWrite, hx]
    · simp [State.applyEnv, State.envWrite, hx, setSp_memWrite]
  | post k => exact setSp_memWrite s w ifAddr _

theorem setSp_applyEnvs (acts : List EnvAct) (s : State) (w : Word) :
    (s.setSp w).applyEnvs acts = (s.applyEnvs acts).setSp w := by
  induction acts generalizing s with
  | nil => rfl
  | cons act acts ih =>
    have h := ih (s.applyEnv act)
    rwa [← setSp_applyEnv] at h

theorem setSp_landEnv (s : State) (w : Word) : (s.setSp w).landEnv = s.landEnv.setSp w := by
  unfold State.landEnv
  rw [setSp_env]
  split
  · rfl
  · rename_i acts later _
    exact setSp_applyEnvs acts { s with env := later } w

theorem setSp_afterAccess (s : State) (w : Word) : (s.setSp w).afterAccess = s.afterAccess.setSp w := by
  cases h : s.cfg.envWritePoints
  · simp [State.afterAccess, h]
  · simp [State.afterAccess, h, setSp_landEnv]

theorem setSp_store (s : State) (w x : Word) (v : Byte) : (s.setSp w).store x v = (s.store x v).setSp w := by
  rw [State.store, setSp_memWrite, setSp_afterAccess, State.store]

/-- A push is two stores below SP, the high byte first, and the move of SP (R59). -/
theorem push16_eq_stores (s : State) (v : Word) :
    s.push16 v = ((s.store (s.sp - 1) (hiByte v)).store (s.sp - 2) (loByte v)).setSp (s.sp - 2) := by
  simp [State.push16, setSp_store, sub_one_twice]

/-- A pop is two reads, the low byte first, and the move of SP (R60). -/
theorem pop16_eq_reads (s : State) :
    s.pop16 = (join (s.afterAccess.memRead (s.sp + 1)) (s.memRead s.sp),
      s.afterAccess.afterAccess.setSp (s.sp + 2)) := by
  have hr (t : State) (w x : Word) : (t.setSp w).memRead x = t.memRead x := rfl
  simp [State.pop16, setSp_afterAccess, add_one_twice, hr]

/-- Settles O39, each primitive written as its byte accesses. -/
theorem stackPrimitives : Obligations.StackPrimitives := by
  unfold Obligations.StackPrimitives
  intro s x v
  rw [push16_eq_stores, State.write16, hiByte_eq, loByte_eq]
  exact ⟨rfl, rfl, rfl⟩

theorem memWrite_quiet {s : State} (h : s.quietEnv) (x : Word) (v : Byte) : (s.memWrite x v).quietEnv := by
  simpa [State.quietEnv] using h

/-- Where no act of the environment can land, a store is a write through the port. -/
theorem store_quiet {s : State} (h : s.quietEnv) (x : Word) (v : Byte) : s.store x v = s.memWrite x v :=
  afterAccess_quiet (memWrite_quiet h x v)

theorem push16_quiet {s : State} (h : s.quietEnv) (v : Word) :
    s.push16 v = ((s.memWrite (s.sp - 1) (hiByte v)).memWrite (s.sp - 2) (loByte v)).setSp (s.sp - 2) := by
  rw [push16_eq_stores, store_quiet h, store_quiet (memWrite_quiet h _ _)]

theorem pop16_quiet {s : State} (h : s.quietEnv) :
    s.pop16 = (join (s.memRead (s.sp + 1)) (s.memRead s.sp), s.setSp (s.sp + 2)) := by
  rw [pop16_eq_reads, afterAccess_quiet h, afterAccess_quiet h]

/-- Both bytes pushed read back where none is dropped, even where one of them is the latch: the other then lies above the
overlay. -/
theorem memRead_pushed {s : State} (h : Claims.keepsPushed s) (hi lo : Byte) :
    ((s.memWrite (s.sp - 1) hi).memWrite (s.sp - 2) lo).memRead (s.sp - 1) = hi ∧
      ((s.memWrite (s.sp - 1) hi).memWrite (s.sp - 2) lo).memRead (s.sp - 2) = lo := by
  have hhi : s.keepsWrite (s.sp - 1) := by
    rcases h with h | h | ⟨h, -⟩
    exacts [.inl h, .inr (.inr h), .inr (.inl h)]
  have hlo : (s.memWrite (s.sp - 1) hi).keepsWrite (s.sp - 2) := by
    rcases h with h | h | ⟨-, h⟩
    · exact .inl (by rwa [memWrite_cfg])
    · by_cases hl : s.sp - 1 = 0xFF50
      · exact .inr (.inl (by bv_omega))
      · exact .inr (.inr ((read_mem_memWrite_ne (Ne.symm hl) hi).trans_ne h))
    · exact .inr (.inl h)
  have hne : s.sp - 1 ≠ s.sp - 2 := by bv_omega
  have hlatch : s.sp - 2 ≠ 0xFF50 ∨ 256 ≤ (s.sp - 1).toNat := by bv_omega
  exact ⟨(memRead_memWrite_ne hne hlatch lo).trans (memRead_memWrite_same hhi hi), memRead_memWrite_same hlo lo⟩

/-- Where no act of the environment can land and no pushed byte is dropped, a pop gives back what was pushed (R60). -/
theorem pop16_push16 {s : State} (hq : s.quietEnv) (h : Claims.keepsPushed s) (v : Word) :
    (s.push16 v).pop16.1 = v ∧ (s.push16 v).pop16.2.sp = s.sp := by
  have hq' : (s.push16 v).quietEnv := by
    rw [push16_quiet hq]
    exact memWrite_quiet (memWrite_quiet hq _ _) _ _
  obtain ⟨hhi, hlo⟩ := memRead_pushed h (hiByte v) (loByte v)
  have hsp : s.sp - 2 + 1 = s.sp - 1 := by bv_omega
  have hr (t : State) (w x : Word) : (t.setSp w).memRead x = t.memRead x := rfl
  rw [pop16_quiet hq', push16_quiet hq]
  constructor
  · simp only [setSp_sp, hr, hsp, hhi, hlo]
    exact join_hiByte_loByte v
  · simp

/-- Settles O40: Pop16 as its two reads, and it reads what Push16 wrote. -/
theorem pushThenPopIsSymmetric : Obligations.PushThenPopIsSymmetric := by
  unfold Obligations.PushThenPopIsSymmetric
  intro s v
  exact ⟨pop16_eq_reads s, fun hq h => pop16_push16 hq h v⟩

/-! ### An act of the environment between two accesses (R63, R67) -/

theorem afterAccess_write {s : State} {x : Word} {w : Byte} (hb : s.cfg.envWritePoints = .byte)
    (he : s.env = [[.write x w]]) : s.afterAccess = ({ s with env := [] } : State).envWrite x w := by
  simp [State.afterAccess, State.landEnv, State.applyEnvs, State.applyEnv, hb, he]

theorem envWrite_env (s : State) (x : Word) (v : Byte) : (s.envWrite x v).env = s.env := by
  obtain ⟨_, _, h⟩ := envWrite_eq s x v
  rw [h]

/-- A byte operation on the byte at HL: the read, the point after it, the flags, and the write (R215, R244). -/
theorem modify8_atHl (s : State) (g : Byte → Flags → Res8) :
    s.modify8 .atHl g = (s.afterAccess.setFlags (g (s.memRead s.hl) s.flags).flags).store s.hl
      (g (s.memRead s.hl) s.flags).res := by
  have hhl : (s.afterAccess.setFlags (g (s.memRead s.hl) s.flags).flags).hl = s.hl := by simp [State.hl]
  simp only [State.modify8, State.afterRead, State.value, State.put, hhl]

/-- INC (HL) where no act of the environment is left after its read: the flags, and the old byte plus one (R216). -/
theorem exec_incAtHl {s : State} (h : s.afterAccess.env = []) :
    exec .incAtHl s = .next (((s.afterAccess.setFlags (inc8 (s.memRead s.hl) s.flags).flags).memWrite s.hl
      (s.memRead s.hl + 1)).cycles 12) := by
  have hq : (s.afterAccess.setFlags (inc8 (s.memRead s.hl) s.flags).flags).quietEnv := .inr h
  rw [Laws.exec_eq_run, ← store_quiet hq]
  exact congrArg (fun t : State => Host.Outcome.next (t.cycles 12)) (modify8_atHl s inc8)

/-- Settles O42: the environment's byte is what INC overwrites, and INC computed its own before that byte landed. -/
theorem readModifyWriteIsNotAtomic : Obligations.ReadModifyWriteIsNotAtomic := by
  unfold Obligations.ReadModifyWriteIsNotAtomic
  intro s w hb he hhl
  have henv : s.afterAccess.env = [] := by rw [afterAccess_write hb he, envWrite_env]
  refine ⟨_, exec_incAtHl henv, memRead_memWrite_same (.inr (.inl hhl)) _, ?_⟩
  rw [cycles_env, memWrite_env, setFlags_env, henv]

/-! ### What each operation stores (R13, R62, R69) -/

/-- Where a write of an operand stores (R85). -/
def State.placeStores (s : State) : Place → List Word
  | .reg _ => []
  | .atHl => [s.hl]

theorem afterRead_quiet {s : State} (h : s.quietEnv) (p : Place) : s.afterRead p = s := by
  cases p with
  | reg r => rfl
  | atHl => exact afterAccess_quiet h

theorem store_onlyStores {s : State} (h : s.quietEnv) (x : Word) (v : Byte) : OnlyStores [x] s (s.store x v) := by
  rw [store_quiet h]
  exact memWrite_onlyStores s x v

theorem write16_onlyStores {s : State} (h : s.quietEnv) (x v : Word) : OnlyStores [x, x + 1] s (s.write16 x v) := by
  rw [State.write16, store_quiet h, store_quiet (memWrite_quiet h _ _)]
  exact (memWrite_onlyStores s x _).trans (memWrite_onlyStores _ (x + 1) _)

theorem push16_onlyStores {s : State} (h : s.quietEnv) (v : Word) :
    OnlyStores (Claims.pushed s) s (s.push16 v) := by
  rw [push16_quiet h]
  exact ((memWrite_onlyStores s (s.sp - 1) _).trans (memWrite_onlyStores _ (s.sp - 2) _)).andThen ⟨rfl, rfl⟩

theorem put_onlyStores {s : State} (h : s.quietEnv) (p : Place) (v : Byte) :
    OnlyStores (s.placeStores p) s (s.put p v) := by
  cases p with
  | reg r => exact SameStores.onlyStores ⟨setReg_mem s r v, setReg_boot s r v⟩ _
  | atHl => exact store_onlyStores h s.hl v

theorem modify8_onlyStores {s : State} (h : s.quietEnv) (p : Place) (g : Byte → Flags → Res8) :
    OnlyStores (s.placeStores p) s (s.modify8 p g) := by
  rw [State.modify8, afterRead_quiet h]
  have hf (fl : Flags) : SameStores s (s.setFlags fl) := ⟨rfl, rfl⟩
  exact ((hf _).onlyStores []).trans (put_onlyStores (s := s.setFlags _) h p _)

theorem modifyQuiet_onlyStores {s : State} (h : s.quietEnv) (p : Place) (g : Byte → Byte) :
    OnlyStores (s.placeStores p) s (s.modifyQuiet p g) := by
  rw [State.modifyQuiet, afterRead_quiet h]
  exact put_onlyStores h p _

theorem bitTest_sameStores {s : State} (h : s.quietEnv) (b : Fin 8) (p : Place) : SameStores s (s.bitTest b p) := by
  rw [State.bitTest, afterRead_quiet h]
  exact ⟨rfl, rfl⟩

theorem alu_sameStores (s : State) (op : AluOp) (v : Byte) : SameStores s (s.alu op v) := by
  cases op <;> exact ⟨rfl, rfl⟩

theorem aluPlace_sameStores {s : State} (h : s.quietEnv) (op : AluOp) (p : Place) : SameStores s (s.aluPlace op p) := by
  rw [State.aluPlace, afterRead_quiet h]
  exact alu_sameStores s op _

theorem disableInterrupts_sameStores (s : State) : SameStores s s.disableInterrupts := by
  rw [disableInterrupts_eq]
  exact ⟨rfl, rfl⟩

theorem enableInterrupts_sameStores (s : State) : SameStores s s.enableInterrupts := by
  rw [enableInterrupts_eq]
  exact ⟨rfl, rfl⟩

theorem raiseDecodeFault_sameStores (s : State) (op : Byte) (x : Word) : SameStores s (s.raiseDecodeFault op x) :=
  ⟨rfl, rfl⟩

theorem load_sameStores {s : State} (h : s.quietEnv) (r : Reg8) (x : Word) : SameStores s (s.load r x) := by
  rw [State.load, afterAccess_quiet h]
  exact ⟨setReg_mem s r _, setReg_boot s r _⟩

theorem pop16_sameStores {s : State} (h : s.quietEnv) : SameStores s s.pop16.2 := by
  rw [pop16_quiet h]
  exact ⟨rfl, rfl⟩

/-- A conditional transfer stores where its taken form does, and not taken nowhere (R270). -/
theorem ifCond_onlyStores {s : State} {l : List Word} (cc : Cond) (taken : State → State) (m n : Nat)
    (h : OnlyStores l s (taken s)) :
    OnlyStores (if s.cond cc then l else []) s (s.ifCond cc taken m n) := by
  unfold State.ifCond
  split
  · exact h.cycles m
  · exact (OnlyStores.refl s).cycles n

theorem ifCond_onlyStores_nil {s : State} (cc : Cond) (taken : State → State) (m n : Nat)
    (h : OnlyStores [] s (taken s)) : OnlyStores [] s (s.ifCond cc taken m n) := by
  simpa using ifCond_onlyStores cc taken m n h

theorem placeStores_placeOfCode (s : State) {z : Nat} (h : z < 8) :
    s.placeStores (placeOfCode z) = if z = 6 then [s.hl] else [] := by
  interval_cases z <;> rfl

end Sys2Proof.Machine

namespace Sys2Proof.Laws

open Sys2Proof.Machine Sys2Proof.Claims

/-! ### Where each shape stores -/

/-- The addresses a shape stores to. -/
def Shape.stores (s : State) : Shape → List Word
  | .prefixCb op2 => storedAt [0xCB, op2] s
  | .storeAtHl _ | .storeImmAtHl _ | .storeStep _ => [s.hl]
  | .storeAtPair p => [s.pair p]
  | .storeAbs nn => [nn]
  | .storeHigh n => [highPage n]
  | .storeHighC => [highPage s.c]
  | .storeSp nn => [nn, nn + 1]
  | .incPlace p _ | .decPlace p _ | .rot _ p _ | .res _ p _ | .set _ p _ => s.placeStores p
  | .push _ | .call _ | .rst _ => pushed s
  | .callIf cc _ => if s.cond cc then pushed s else []
  | _ => []

/-- Where the bytes of an instruction say that it stores is where its shape stores. -/
theorem storedAt_encode {i : Instr} (h : ∀ op, i ≠ .illegal op) (s : State) :
    storedAt (encode .two i) s = (shapeOf i).stores s := by
  cases i
  case illegal op => exact absurd rfl (h op)
  case ldAtNnA nn => exact congrArg (fun x => [x]) (join_hiByte_loByte nn)
  case ldAtNnSp nn => exact congrArg (fun x => [x, x + 1]) (join_hiByte_loByte nn)
  all_goals rfl

/-- An extended instruction other than BIT stores at its operand (R91, R244). -/
theorem extended_onlyStores {s : State} (h : s.quietEnv) (op2 : Byte) :
    OnlyStores (storedAt [0xCB, op2] s) s (s.extended op2) := by
  have hp := placeStores_placeOfCode s (Nat.mod_lt op2.toNat (y := 8) (by decide))
  have hl (hx : op2.toNat / 64 ≠ 1) : storedAt [0xCB, op2] s = s.placeStores (placeOfCode (op2.toNat % 8)) := by
    simp [storedAt, hx, hp]
  refine OnlyStores.cycles ?_ _
  split
  case h_1 hx => exact hl (by omega) ▸ modify8_onlyStores h _ _
  case h_2 hx => exact (bitTest_sameStores h _ _).onlyStores _
  case h_3 hx => exact hl (by omega) ▸ modifyQuiet_onlyStores h _ _
  case h_4 _ hx _ => exact hl hx ▸ modifyQuiet_onlyStores h _ _

/-- A shape stores nowhere but at its own addresses. -/
theorem run_onlyStores {s : State} (h : s.quietEnv) (sh : Shape) : OnlyStores (sh.stores s) s (sh.run s) := by
  have hs : OnlyStores [] s s := .refl s
  cases sh
  case prefixCb op2 => exact extended_onlyStores h op2
  case storeAtHl | storeImmAtHl | storeAtPair | storeAbs | storeHigh | storeHighC =>
    exact (store_onlyStores h _ _).cycles _
  case storeStep d => exact ((store_onlyStores h _ _).setHl _).cycles 8
  case storeSp nn => exact (write16_onlyStores h nn _).cycles 20
  case push p => exact (push16_onlyStores h _).cycles 16
  case call | rst => exact ((push16_onlyStores h _).setPc _).cycles _
  case callIf cc nn => exact ifCond_onlyStores cc (·.call nn) 24 12 ((push16_onlyStores h s.pc).setPc nn)
  case incPlace | decPlace | rot => exact (modify8_onlyStores h _ _).cycles _
  case res | set => exact (modifyQuiet_onlyStores h _ _).cycles _
  case loadAtHl | loadAtPair | loadAbs | loadHigh | loadHighC => exact (hs.andThen (load_sameStores h _ _)).cycles _
  case loadStep d => exact ((hs.andThen (load_sameStores h _ _)).setHl _).cycles 8
  case aluPlace op p n => exact (hs.andThen (aluPlace_sameStores h op p)).cycles n
  case aluImm op n => exact (hs.andThen (alu_sameStores s op n)).cycles 8
  case bit b p n => exact (hs.andThen (bitTest_sameStores h b p)).cycles n
  case pop p =>
    exact ((hs.andThen (pop16_sameStores h)).andThen ⟨setStackPair_mem _ p _, setStackPair_boot _ p _⟩).cycles 12
  case ret => exact ((hs.andThen (pop16_sameStores h)).setPc _).cycles 16
  case reti => exact hs.andThen (pop16_sameStores h)
  case retIf cc => exact ifCond_onlyStores_nil cc State.ret 20 8 ((hs.andThen (pop16_sameStores h)).setPc _)
  case jumpIf cc nn => exact ifCond_onlyStores_nil cc (·.setPc nn) 16 12 (hs.setPc nn)
  case jumpRelIf cc e => exact ifCond_onlyStores_nil cc (·.jumpRel e) 12 8 (hs.setPc (s.pc + sext16 e))
  case di => exact hs.andThen (disableInterrupts_sameStores s)
  case ei => exact hs.andThen (enableInterrupts_sameStores s)
  case copyReg | loadImm => exact hs.andThen ⟨setReg_mem _ _ _, setReg_boot _ _ _⟩
  case loadPair | incPair | decPair => exact hs.andThen ⟨setPair_mem _ _ _, setPair_boot _ _ _⟩
  all_goals exact hs.andThen ⟨rfl, rfl⟩

/-- Settles O13: the addresses read from the bytes are those of the shape, and no shape stores elsewhere. -/
theorem memoryFrame : Obligations.MemoryFrame := by
  unfold Obligations.MemoryFrame
  intro i s t x hq ht hx
  have h : OnlyStores (storedAt (encode .two i) s) s t := by
    rcases exec_cases i s with ⟨op, rfl, hrun⟩ | ⟨hi, -⟩
    · cases hrun.symm.trans ht
      exact (raiseDecodeFault_sameStores s op _).onlyStores _
    · cases (exec_eq_run i s).symm.trans ht
      rw [storedAt_encode hi]
      exact run_onlyStores hq (shapeOf i)
  exact ⟨h.mem x hx, h.boot x hx, fun hlatch => h.memRead hx hlatch⟩

end Sys2Proof.Laws

/-! ## The decoder and the encoder (R80 to R96)

`Row.instr` is the instruction of a row of the primary table with the word that follows the opcode. The decoder reads it
from three bytes (`decode_three`), a fetch reads it at PC (`fetch_quiet`), and its encoding is the row's bytes
(`encode_instr`). In the other direction the decoder undoes the encoder instruction by instruction. -/

namespace Sys2Proof

open Sys2Proof.Machine

/-- The instruction of a row whose opcode is followed by the word `nn`, the low byte first (R82 to R84). -/
def Row.instr (nn : Word) : Row → Instr
  | .op i => i
  | .opN f => f (loByte nn)
  | .opNn f => f nn
  | .stop => .stop
  | .cbPrefix => extendedRow (loByte nn)

end Sys2Proof

namespace Sys2Proof.Machine

theorem loByte_join (hi lo : Byte) : loByte (join hi lo) = lo := BitVec.extractLsb'_append_eq_right

theorem hiByte_join (hi lo : Byte) : hiByte (join hi lo) = hi := BitVec.extractLsb'_append_eq_left

end Sys2Proof.Machine

namespace Sys2Proof.Laws

open Sys2Proof.Machine Sys2Proof.Claims

/-! ### Decoding what was encoded -/

/-- A row with a 16-bit immediate reads it back from its two bytes (R84). -/
theorem decode_opNn {op : Byte} {f : Word → Instr} (h : primaryRow op = .opNn f) (sl : Config.StopLength) (nn : Word)
    (rest : List Byte) : decode sl (op :: loByte nn :: hiByte nn :: rest) = .ok (f nn, rest) := by
  simp [decode, h, join_hiByte_loByte]

theorem wellFormed_illegal_iff {op : Byte} : Instr.wellFormed (.illegal op) = true ↔ op ∈ illegalOpcodes := by
  simp [Instr.wellFormed, WellFormed.isCanonicalSpelling, WellFormed.isUnrecognized]

/-- Each of the eleven unrecognized opcodes has a row of its own (R93). -/
theorem primaryRow_of_unrecognized {op : Byte} (h : op ∈ illegalOpcodes) : primaryRow op = .op (.illegal op) := by
  simp only [illegalOpcodes, List.mem_cons, List.not_mem_nil, or_false] at h
  rcases h with rfl | rfl | rfl | rfl | rfl | rfl | rfl | rfl | rfl | rfl | rfl <;> rfl

/-- Settles O2: the opcode selects the instruction's own row, and the row reads its operands back. -/
theorem decodeInvertsEncode : Obligations.DecodeInvertsEncode := by
  unfold Obligations.DecodeInvertsEncode
  intro sl i rest hi
  cases i
  case prefixCb op2 => exact absurd hi Bool.false_ne_true
  case illegal op => simp [decode, encode, primaryRow_of_unrecognized (wellFormed_illegal_iff.mp hi)]
  case stop => cases sl <;> rfl
  case ldBcNn nn | ldDeNn nn | ldHlNn nn | ldSpNn nn | ldAtNnSp nn | ldAtNnA nn | ldAAtNn nn | jpNn nn | jpNzNn nn |
      jpZNn nn | jpNcNn nn | jpCNn nn | callNn nn | callNzNn nn | callZNn nn | callNcNn nn | callCNn nn =>
    exact decode_opNn rfl sl nn rest
  all_goals rfl

/-! ### Encoding what was decoded -/

/-- Three bytes hold the instruction of the first one's row, and the bytes after it. -/
theorem decode_three (sl : Config.StopLength) (op lo hi : Byte) :
    decode sl [op, lo, hi] =
      .ok ((primaryRow op).instr (join hi lo), [op, lo, hi].drop ((primaryRow op).length sl)) := by
  cases h : primaryRow op
  case stop => cases sl <;> simp [decode, h, Row.instr, Row.length]
  all_goals simp [decode, h, Row.instr, Row.length, loByte_join]

/-- All 256 rows of the extended table are instructions, whose bytes are 0xCB and their own second byte (R93, R96). -/
theorem encode_extendedRow (sl : Config.StopLength) (op2 : Byte) :
    (extendedRow op2).wellFormed = true ∧ encode sl (extendedRow op2) = [0xCB, op2] := by
  revert op2
  cases sl <;> decide

/-- All 256 rows of the primary table hold instructions, whose bytes, but for STOP's, are the opcode and as much of the
word as the row asks for (R80, R95). -/
theorem encode_instr (sl : Config.StopLength) (op : Byte) (nn : Word) :
    ((primaryRow op).instr nn).wellFormed = true ∧ (op ≠ 0x10 →
      encode sl ((primaryRow op).instr nn) = [op, loByte nn, hiByte nn].take ((primaryRow op).length sl)) := by
  obtain ⟨n, hn, rfl⟩ : ∃ n < 256, op = BitVec.ofNat 8 n := ⟨op.toNat, op.isLt, by simp⟩
  have hcases : n = 0x10 ∨ n = 0xCB ∨ n < 0x10 ∨ (0x10 < n ∧ n < 0xCB) ∨ 0xCB < n := by omega
  rcases hcases with rfl | rfl | hrest
  · exact ⟨rfl, fun h => absurd rfl h⟩
  · obtain ⟨hw, he⟩ := encode_extendedRow sl (loByte nn)
    exact ⟨hw, fun _ => he⟩
  · rcases hrest with h | ⟨h, h'⟩ | h
    all_goals
      interval_cases n
      all_goals exact ⟨rfl, fun _ => rfl⟩

/-- Settles O3: the bytes are a row's, and its instruction encodes to them. -/
theorem encodeInvertsDecode : Obligations.EncodeInvertsDecode := by
  unfold Obligations.EncodeInvertsDecode
  intro sl op lo hi
  obtain ⟨hw, he⟩ := encode_instr sl op (join hi lo)
  rw [loByte_join, hiByte_join] at he
  refine ⟨_, _, decode_three sl op lo hi, hw, fun hop => ?_⟩
  rw [he hop, List.take_append_drop]

/-! ### The unrecognized opcodes (R93) -/

/-- Three bytes decode to an unrecognized opcode exactly when the first byte is one of the eleven. -/
theorem decode_eq_illegal_iff (sl : Config.StopLength) (op lo hi : Byte) :
    (∃ rest, decode sl [op, lo, hi] = .ok (.illegal op, rest)) ↔ op ∈ illegalOpcodes := by
  constructor
  · rintro ⟨rest, h⟩
    obtain ⟨i, rest', h', hw, -⟩ := encodeInvertsDecode sl op lo hi
    cases h'.symm.trans h
    exact wellFormed_illegal_iff.mp hw
  · intro h
    exact ⟨_, decodeInvertsEncode sl (.illegal op) [lo, hi] (wellFormed_illegal_iff.mpr h)⟩

/-- No extended instruction changes the run state: those that do have other bytes (R30). -/
theorem exec_extendedRow_mode {op2 : Byte} {s t : State} (ht : exec (extendedRow op2) s = .next t) :
    t.mode = s.mode := by
  have hne (i : Instr) (hi : encode .two i ≠ [0xCB, op2]) : extendedRow op2 ≠ i := by
    rintro rfl
    exact hi (encode_extendedRow .two op2).2
  obtain ⟨hmode, -⟩ := controlStateFrame (extendedRow op2) s t ht
  exact hmode (hne .halt (by simp [encode])) (hne .stop (by simp [encode, stopBytes])) fun op =>
    hne (.illegal op) (by simp [encode])

/-- Settles O4: only the eleven have well-formed instructions of their own, and the extended rows have other bytes. -/
theorem elevenOpcodesAreUnrecognized : Obligations.ElevenOpcodesAreUnrecognized := by
  unfold Obligations.ElevenOpcodesAreUnrecognized
  refine ⟨decode_eq_illegal_iff, fun op s => exec_eq_run (.illegal op) s, fun op2 s => ?_⟩
  have ht := exec_eq_run (extendedRow op2) s
  exact ⟨_, _, rfl, (encode_extendedRow .two op2).1, ht, exec_extendedRow_mode ht⟩

/-! ### Lengths (R94) -/

/-- The bytes decoded are as many as the row of the first one asks for. -/
theorem length_of_decode {sl : Config.StopLength} {op : Byte} {rest left : List Byte} {i : Instr}
    (h : decode sl (op :: rest) = .ok (i, left)) : rest.length + 1 = left.length + (primaryRow op).length sl := by
  simp only [decode] at h
  split at h
  case h_5 hrow => split at h <;> cases h <;> simp [hrow, Row.length]
  case h_6 => cases h
  case h_1 hrow | h_2 hrow | h_3 hrow | h_4 hrow =>
    cases h
    simp [hrow, Row.length]

/-- Settles O5: each of the two lengths is that of the first byte's row. -/
theorem lengthDependsOnFirstByte : Obligations.LengthDependsOnFirstByte := by
  unfold Obligations.LengthDependsOnFirstByte
  intro sl op r1 r2 l1 l2 i1 i2 h1 h2
  have := length_of_decode h1
  have := length_of_decode h2
  omega

/-! ### Sample words -/

/-- Settles O1: each word has its row, and the row its operands. -/
theorem sampleWordsDecode : Obligations.SampleWordsDecode := by
  unfold Obligations.SampleWordsDecode
  exact ⟨rfl, rfl, rfl, rfl, rfl, rfl, rfl, rfl, rfl⟩

/-! ### The fetch (R92) -/

theorem fetchByte_quiet {s : State} (h : s.quietEnv) : s.fetchByte = (s.memRead s.pc, s.setPc (s.pc + 1)) := by
  rw [State.fetchByte, afterAccess_quiet (s := s.setPc (s.pc + 1)) h]

/-- Where no act of the environment can land, a fetch reads the instruction of the row at PC and moves PC past
its bytes. -/
theorem fetch_quiet {s : State} (h : s.quietEnv) :
    s.fetch =
      ((primaryRow (s.memRead s.pc)).instr (join (s.memRead (s.pc + 2)) (s.memRead (s.pc + 1))),
        s.setPc (s.pc + BitVec.ofNat 16 ((primaryRow (s.memRead s.pc)).length s.cfg.stopLength))) := by
  have h1 : s.fetchByte = (s.memRead s.pc, s.setPc (s.pc + 1)) := fetchByte_quiet h
  have h2 (x : Word) : (s.setPc x).fetchByte = (s.memRead x, s.setPc (x + 1)) := fetchByte_quiet (s := s.setPc x) h
  cases hrow : primaryRow (s.memRead s.pc)
  case stop =>
    cases hl : s.cfg.stopLength <;> simp [State.fetch, h1, h2, hrow, hl, Row.instr, Row.length, add_one_twice]
  case op => simp [State.fetch, h1, hrow, Row.instr, Row.length]
  case opN | cbPrefix => simp [State.fetch, h1, h2, hrow, Row.instr, Row.length, loByte_join, add_one_twice]
  case opNn => simp [State.fetch, State.fetchWord, h1, h2, hrow, Row.instr, Row.length, BitVec.add_assoc]

/-- Settles O7: the fetch of the round reads what the bytes at PC decode to. -/
theorem stepRunsTheDecodedInstruction : Obligations.StepRunsTheDecodedInstruction := by
  unfold Obligations.StepRunsTheDecodedInstruction
  intro s i rest hm hq h
  rw [State.bytesAtPc] at h
  have hlen : (primaryRow (s.landEnv.memRead s.landEnv.pc)).length s.cfg.stopLength = 3 - rest.length := by
    have := length_of_decode h
    simp only [List.length_cons, List.length_nil] at this
    omega
  rw [step_of_active hm, fetch_quiet hq, landEnv_cfg, hlen, landEnv_pc, exec_eq_run]
  cases (decode_three ..).symm.trans h
  rw [landEnv_pc]

end Sys2Proof.Laws

/-! ## The frame of the general registers (R28, R85 to R87, R95, R96)

`OnlyRegs l s t` says that from `s` to `t` no general register outside `l` changes; `Shape.dests` is which registers a
shape may write, and `run_onlyRegs` that no shape writes another. -/

namespace Sys2Proof.Machine

/-! ### Operations that change no general register -/

section
variable (s : State) (r : Reg8)

@[simp] theorem cycles_reg (n : Nat) : (s.cycles n).reg r = s.reg r := by cases r <;> rfl
@[simp] theorem setPc_reg (v : Word) : (s.setPc v).reg r = s.reg r := by cases r <;> rfl
@[simp] theorem setSp_reg (v : Word) : (s.setSp v).reg r = s.reg r := by cases r <;> rfl
@[simp] theorem setMode_reg (m : Mode) : (s.setMode m).reg r = s.reg r := by cases r <;> rfl
@[simp] theorem setFlags_reg (fl : Flags) : (s.setFlags fl).reg r = s.reg r := by cases r <;> rfl

@[simp] theorem raiseDecodeFault_reg (op : Byte) (x : Word) : (s.raiseDecodeFault op x).reg r = s.reg r := by
  cases r <;> rfl

@[simp] theorem afterAccess_reg : s.afterAccess.reg r = s.reg r := by
  obtain ⟨_, _, _, h⟩ := afterAccess_eq s
  rw [h]
  cases r <;> rfl

@[simp] theorem memWrite_reg (x : Word) (v : Byte) : (s.memWrite x v).reg r = s.reg r := by
  obtain ⟨_, _, h⟩ := memWrite_eq s x v
  rw [h]
  cases r <;> rfl

@[simp] theorem store_reg (x : Word) (v : Byte) : (s.store x v).reg r = s.reg r := by
  simp [State.store]

@[simp] theorem afterRead_reg (p : Place) : (s.afterRead p).reg r = s.reg r := by
  cases p <;> simp [State.afterRead]

@[simp] theorem write16_reg (x v : Word) : (s.write16 x v).reg r = s.reg r := by
  simp [State.write16]

@[simp] theorem push16_reg (v : Word) : (s.push16 v).reg r = s.reg r := by
  simp [State.push16]

@[simp] theorem pop16_reg : s.pop16.2.reg r = s.reg r := by
  simp [State.pop16]

@[simp] theorem call_reg (x : Word) : (s.call x).reg r = s.reg r := by
  simp [State.call]

@[simp] theorem ret_reg : s.ret.reg r = s.reg r := by
  simp [State.ret]

@[simp] theorem jumpRel_reg (e : Byte) : (s.jumpRel e).reg r = s.reg r := by
  simp [State.jumpRel]

@[simp] theorem returnFromInterrupt_reg : s.returnFromInterrupt.reg r = s.reg r :=
  Eq.trans (by cases r <;> rfl) (pop16_reg s r)

@[simp] theorem disableInterrupts_reg : s.disableInterrupts.reg r = s.reg r := by
  rw [disableInterrupts_eq]
  cases r <;> rfl

@[simp] theorem enableInterrupts_reg : s.enableInterrupts.reg r = s.reg r := by
  rw [enableInterrupts_eq]
  cases r <;> rfl

@[simp] theorem setCarry_reg : s.setCarry.reg r = s.reg r := setFlags_reg s r _
@[simp] theorem flipCarry_reg : s.flipCarry.reg r = s.reg r := setFlags_reg s r _

@[simp] theorem bitTest_reg (b : Fin 8) (p : Place) : (s.bitTest b p).reg r = s.reg r := by
  simp [State.bitTest]

@[simp] theorem addSpRel_reg (e : Byte) : (s.addSpRel e).reg r = s.reg r := by
  simp [State.addSpRel]

/-- A conditional transfer whose taken form changes no general register changes none (R270). -/
theorem ifCond_reg {taken : State → State} (h : (taken s).reg r = s.reg r) (cc : Cond) (m n : Nat) :
    (s.ifCond cc taken m n).reg r = s.reg r := by
  unfold State.ifCond
  split <;> simp [h]

end

end Sys2Proof.Machine

namespace Sys2Proof

/-! ### The general registers an operand names -/

/-- The general registers of an 8-bit operand: none for the byte at HL (R85). -/
def Place.regs : Place → List Reg8
  | .reg r => [r]
  | .atHl => []

/-- The general registers of a pair: none for SP (R86). -/
def Pair.regs : Pair → List Reg8
  | .bc => [.b, .c]
  | .de => [.d, .e]
  | .hl => [.h, .l]
  | .sp => []

/-- The general registers of a pair of the stack: A alone for AF (R87). -/
def StackPair.regs : StackPair → List Reg8
  | .bc => [.b, .c]
  | .de => [.d, .e]
  | .hl => [.h, .l]
  | .af => [.a]

/-- What an accumulator operation writes: nothing for CP (R89, R212). -/
def AluOp.regs : AluOp → List Reg8
  | .cp => []
  | _ => [.a]

end Sys2Proof

namespace Sys2Proof.Machine

/-! ### Operations that write general registers -/

/-- From `s` to `t` every general register outside `l` keeps its value. -/
def OnlyRegs (l : List Reg8) (s t : State) : Prop := ∀ r ∉ l, t.reg r = s.reg r

namespace OnlyRegs

variable {l : List Reg8} {s t u : State}

theorem of_eq (h : ∀ r, t.reg r = s.reg r) : OnlyRegs l s t := fun r _ => h r

/-- What changes no general register may follow. -/
theorem andThen (h : OnlyRegs l s t) (h' : ∀ r, u.reg r = t.reg r) : OnlyRegs l s u :=
  fun r hr => (h' r).trans (h r hr)

theorem cycles (h : OnlyRegs l s t) (n : Nat) : OnlyRegs l s (t.cycles n) := h.andThen fun r => cycles_reg t r n

theorem setReg (h : OnlyRegs l s t) {dst : Reg8} (hd : dst ∈ l) (v : Byte) : OnlyRegs l s (t.setReg dst v) :=
  fun r hr => (reg_setReg_ne t v (ne_of_mem_of_not_mem hd hr).symm).trans (h r hr)

theorem setHl (h : OnlyRegs l s t) (hl : [.h, .l] ⊆ l) (v : Word) : OnlyRegs l s (t.setHl v) :=
  (h.setReg (dst := .h) (hl (by decide)) (hiByte v)).setReg (dst := .l) (hl (by decide)) (loByte v)

theorem load (h : OnlyRegs l s t) {dst : Reg8} (hd : dst ∈ l) (x : Word) : OnlyRegs l s (t.load dst x) :=
  (h.andThen (afterAccess_reg t)).setReg hd _

theorem setPair {p : Pair} (h : OnlyRegs p.regs s t) (v : Word) : OnlyRegs p.regs s (t.setPair p v) := by
  cases p with
  | bc => exact (h.setReg (dst := .b) (by decide) (hiByte v)).setReg (dst := .c) (by decide) (loByte v)
  | de => exact (h.setReg (dst := .d) (by decide) (hiByte v)).setReg (dst := .e) (by decide) (loByte v)
  | hl => exact h.setHl (List.Subset.refl _) v
  | sp => exact h.andThen fun r => setSp_reg t r v

theorem setStackPair {p : StackPair} (h : OnlyRegs p.regs s t) (v : Word) :
    OnlyRegs p.regs s (t.setStackPair p v) := by
  cases p with
  | bc => exact setPair (p := .bc) h v
  | de => exact setPair (p := .de) h v
  | hl => exact setPair (p := .hl) h v
  | af => exact (h.setReg (dst := .a) (by decide) (hiByte v)).andThen fun r => by cases r <;> rfl

theorem put {p : Place} (h : OnlyRegs p.regs s t) (v : Byte) : OnlyRegs p.regs s (t.put p v) := by
  cases p with
  | reg dst => exact h.setReg (List.mem_singleton_self dst) v
  | atHl => exact h.andThen fun r => store_reg t r t.hl v

theorem modify8 (p : Place) (g : Byte → Flags → Res8) : OnlyRegs p.regs s (s.modify8 p g) :=
  put (of_eq fun r => by simp) _

theorem modifyQuiet (p : Place) (g : Byte → Byte) : OnlyRegs p.regs s (s.modifyQuiet p g) :=
  put (of_eq (afterRead_reg s · p)) _

theorem alu (h : OnlyRegs op.regs s t) (v : Byte) : OnlyRegs op.regs s (t.alu op v) := by
  have hf (fl : Flags) : OnlyRegs op.regs s (t.setFlags fl) := h.andThen fun r => setFlags_reg t r fl
  cases op with
  | cp => exact hf _
  | add | adc | sub | sbc | and | xor | or => exact (hf _).setReg (dst := .a) (by decide) _

theorem onA (g : Byte → Flags → Res8) : OnlyRegs [.a] s (s.onA g) :=
  (of_eq fun r => setFlags_reg s r _).setReg (dst := .a) (by decide) _

end OnlyRegs
end Sys2Proof.Machine

namespace Sys2Proof.Laws

open Sys2Proof.Machine Sys2Proof.Claims

/-! ### The registers a shape may write -/

/-- The general registers a shape may write. -/
def Shape.dests : Shape → List Reg8
  | .prefixCb op2 => destRegs [0xCB, op2]
  | .copyReg dst _ | .loadImm dst _ | .loadAtHl dst => [dst]
  | .loadAtPair _ | .loadAbs _ | .loadHigh _ | .loadHighC | .daa | .cpl | .rotA _ => [.a]
  | .loadStep _ => [.a, .h, .l]
  | .storeStep _ | .hlFromSpRel _ | .addHl _ => [.h, .l]
  | .loadPair p _ | .incPair p | .decPair p => p.regs
  | .pop p => p.regs
  | .aluPlace op _ _ | .aluImm op _ => op.regs
  | .incPlace p _ | .decPlace p _ | .rot _ p _ | .res _ p _ | .set _ p _ => p.regs
  | _ => []

/-- The registers that the bytes of an instruction name are those of its shape. -/
theorem destRegs_encode {i : Instr} (h : ∀ op, i ≠ .illegal op) : destRegs (encode .two i) = (shapeOf i).dests := by
  cases i
  case illegal op => exact absurd rfl (h op)
  all_goals rfl

theorem codeRegs_eq_regs {z : Nat} (h : z < 8) : codeRegs z = (placeOfCode z).regs := by
  revert z
  decide

/-- An extended instruction other than BIT writes at most the register its operand code names (R91, R244). -/
theorem extended_onlyRegs (s : State) (op2 : Byte) : OnlyRegs (destRegs [0xCB, op2]) s (s.extended op2) := by
  have hl (hx : op2.toNat / 64 ≠ 1) : destRegs [0xCB, op2] = (placeOfCode (op2.toNat % 8)).regs := by
    rw [← codeRegs_eq_regs (Nat.mod_lt _ (by decide))]
    simp [destRegs, hx]
  refine OnlyRegs.cycles ?_ _
  split
  case h_1 hx => exact hl (by omega) ▸ .modify8 _ _
  case h_2 => exact .of_eq fun r => bitTest_reg s r _ _
  case h_3 hx => exact hl (by omega) ▸ .modifyQuiet _ _
  case h_4 _ hx _ => exact hl hx ▸ .modifyQuiet _ _

/-- A shape writes no general register but its own destinations. -/
theorem run_onlyRegs (s : State) (sh : Shape) : OnlyRegs sh.dests s (sh.run s) := by
  have hs {l : List Reg8} : OnlyRegs l s s := .of_eq fun _ => rfl
  cases sh
  case prefixCb op2 => exact extended_onlyRegs s op2
  case copyReg | loadImm => exact (hs.setReg (List.mem_singleton_self _) _).cycles _
  case loadAtHl | loadAtPair | loadAbs | loadHigh | loadHighC => exact (hs.load (List.mem_singleton_self _) _).cycles _
  case loadStep =>
    exact ((hs.load (dst := .a) (by simp [Shape.dests]) _).setHl (by simp [Shape.dests]) _).cycles 8
  case storeStep =>
    exact ((hs.andThen fun r => store_reg s r s.hl s.a).setHl (by simp [Shape.dests]) _).cycles 8
  case hlFromSpRel | addHl =>
    exact ((hs.andThen fun r => setFlags_reg s r _).setHl (by simp [Shape.dests]) _).cycles _
  case loadPair | incPair | decPair => exact (hs.setPair _).cycles _
  case pop p => exact (OnlyRegs.setStackPair (.of_eq (pop16_reg s)) _).cycles 12
  case aluPlace op p n => exact (OnlyRegs.alu (.of_eq (afterRead_reg s · p)) _).cycles n
  case aluImm op n => exact (hs.alu n).cycles 8
  case incPlace | decPlace | rot => exact (OnlyRegs.modify8 _ _).cycles _
  case res | set => exact (OnlyRegs.modifyQuiet _ _).cycles _
  case daa | rotA => exact (OnlyRegs.onA _).cycles 4
  case cpl => exact ((hs.andThen fun r => setFlags_reg s r _).setReg (dst := .a) (by decide) _).cycles 4
  case jumpIf cc nn => exact .of_eq fun r => ifCond_reg s r (setPc_reg s r nn) cc 16 12
  case jumpRelIf cc e => exact .of_eq fun r => ifCond_reg s r (jumpRel_reg s r e) cc 12 8
  case callIf cc nn => exact .of_eq fun r => ifCond_reg s r (call_reg s r nn) cc 24 12
  case retIf cc => exact .of_eq fun r => ifCond_reg s r (ret_reg s r) cc 20 8
  all_goals exact .of_eq fun r => by simp [Shape.run]

/-- Settles O11: the registers read from the bytes are those of the shape, and no shape writes another. -/
theorem registerFrame : Obligations.RegisterFrame := by
  unfold Obligations.RegisterFrame
  intro i s t r ht hr
  rcases exec_cases i s with ⟨op, rfl, hrun⟩ | ⟨hi, -⟩
  · cases hrun.symm.trans ht
    exact raiseDecodeFault_reg s r op _
  · cases (exec_eq_run i s).symm.trans ht
    rw [destRegs_encode hi] at hr
    exact run_onlyRegs s (shapeOf i) r hr

end Sys2Proof.Laws

/-! ## The accumulator's flags and decimal correction (R100 to R107, R111, R219)

The flags of an operation come from its result as numbers: `bcdAdd_carry` is the conventional test of R105, and
`bcdAdd_add8_bcd` and `bcdSub_sub8_bcd` are DAA after an addition and after a subtraction of two decimal numbers, both
proved digit by digit. -/

namespace Sys2Proof.Machine

open Sys2Proof.Claims

/-! ### The operations on A -/

/-- `SetFlags` writes the flag byte of its four flags (R21, R22). -/
theorem toByte_eq_fByte (fl : Flags) : fl.toByte &&& 0xF0 = fByte fl.z fl.n fl.h fl.c := by
  obtain ⟨z, n, h, c⟩ := fl
  revert z n h c
  decide

@[simp] theorem cOf_toByte (fl : Flags) : cOf (fl.toByte &&& 0xF0) = fl.c := congrArg Flags.c (ofByte_toByte fl)

@[simp] theorem alu_cfg (s : State) (op : AluOp) (v : Byte) : (s.alu op v).cfg = s.cfg := by
  cases op <;> rfl

/-- The accumulator operations but CP leave their result in A (R190, R212). -/
theorem alu_a (s : State) (op : AluOp) (v : Byte) :
    (s.alu op v).a = if op = .cp then s.a else (aluResult s.cfg.subHalfReading op s.a v s.flags.c).res := by
  cases op <;> rfl

/-- INC reads no flag but the carry (R215). -/
theorem inc8_congr (v : Byte) {fl fl' : Flags} (h : fl.c = fl'.c) : inc8 v fl = inc8 v fl' := by
  simp [inc8, h]

/-- DEC reads no flag but the carry (R217). -/
theorem dec8_congr (v : Byte) {fl fl' : Flags} (h : fl.c = fl'.c) : dec8 v fl = dec8 v fl' := by
  simp [dec8, h]

/-! ### The two directions of DAA -/

theorem bcdCorrect_eq_bcdAdd {mode : Config.DaaMode} {fl : Flags} (h : fl.n = false ∨ mode = .addOnly) (v : Byte) :
    bcdCorrect mode v fl = bcdAdd v fl := by
  rcases h with h | rfl
  · cases mode <;> simp [bcdCorrect, h]
  · rfl

theorem bcdCorrect_eq_bcdSub {fl : Flags} (h : fl.n = true) (v : Byte) :
    bcdCorrect .lr35902 v fl = bcdSub v fl := if_pos h

/-- R105's second condition is the conventional test: a low digit above 9 carries into the high one exactly where
the byte exceeds 0x99, and a half-carry alone never does. -/
theorem bcdAdd_carry (v : Byte) (fl : Flags) : (bcdAdd v fl).flags.c = (fl.c || decide (v.toNat > 0x99)) := by
  have key (t : Nat) (ht : t = if lowNibble v > 9 ∨ fl.h = true then v.toNat + 0x06 else v.toNat) :
      (t / 16 > 9 ∨ highNibble v > 9) ↔ v.toNat > 0x99 := by
    unfold lowNibble at ht
    unfold highNibble
    split at ht <;> omega
  have h := key _ rfl
  rw [Bool.or_comm, ← decide_eq_decide.mpr h, Bool.decide_or]
  rfl

theorem bcdAdd_res (v : Byte) (fl : Flags) :
    (bcdAdd v fl).res = BitVec.ofNat 8
      (v.toNat + (if fl.h = true ∨ v.toNat % 16 > 9 then 6 else 0) +
        (if (bcdAdd v fl).flags.c = true then 0x60 else 0)) := by
  change BitVec.ofNat 8 (if (bcdAdd v fl).flags.c = true then _ + 0x60 else _) = _
  generalize (bcdAdd v fl).flags.c = c
  by_cases h : fl.h = true ∨ v.toNat % 16 > 9
  · simp only [lowNibble, h, h.symm]
    split <;> rfl
  · simp only [lowNibble, h, mt Or.symm h]
    split <;> rfl

theorem bcdSub_res (v : Byte) (fl : Flags) :
    (bcdSub v fl).res = BitVec.ofNat 8
      (v.toNat + 256 - (if fl.h = true then 6 else 0) - (if fl.c = true then 0x60 else 0)) := by
  apply BitVec.eq_of_toNat_eq
  simp only [bcdSub, BitVec.toNat_ofInt, BitVec.toNat_ofNat]
  split <;> split <;> omega

/-! ### DAA after an addition and after a subtraction of decimal numbers -/

theorem toNat_bcd {n : Nat} (h : n < 100) : (bcd n).toNat = n / 10 * 16 + n % 10 := by
  rw [bcd, BitVec.toNat_ofNat]
  omega

theorem bitNat_le_one (b : Bool) : bitNat b ≤ 1 := by
  cases b <;> decide

theorem sub8_res (reading : Config.SubHalfReading) (a b : Byte) (useCarry cf : Bool) :
    (sub8 reading a b useCarry cf).res = BitVec.ofNat 8 (a.toNat + 512 - b.toNat - bitNat (useCarry && cf)) := by
  have := bitNat_le_one (useCarry && cf)
  apply BitVec.eq_of_toNat_eq
  simp only [sub8, BitVec.toNat_ofInt, BitVec.toNat_ofNat]
  omega

/-- The two readings of the half-borrow agree on a subtrahend whose low digit is decimal (R103). -/
theorem sub8_half_of_decimal {b : Byte} (hb : lowNibble b ≤ 9) (reading : Config.SubHalfReading) (a : Byte)
    (useCarry cf : Bool) :
    (sub8 reading a b useCarry cf).flags.h = decide (lowNibble a < lowNibble b + bitNat (useCarry && cf)) := by
  cases reading with
  | nibblePlusBorrow => rfl
  | nibbleOfSum =>
    have := bitNat_le_one (useCarry && cf)
    unfold lowNibble at hb
    simp only [sub8, lowNibble]
    congr 2
    omega

/-- Decimal addition digit by digit: `c` is the carry of the units and `d` that of the tens, and `t` and `u` are the
digits of the sum. -/
theorem exists_decimal_carries {x y k : Nat} (hx : x < 100) (hy : y < 100) (hk : k ≤ 1) :
    ∃ c d t u, c ≤ 1 ∧ d ≤ 1 ∧ t ≤ 9 ∧ u ≤ 9 ∧ x % 10 + y % 10 + k = 10 * c + u ∧ x / 10 + y / 10 + c = 10 * d + t :=
  ⟨(x % 10 + y % 10 + k) / 10, (x / 10 + y / 10 + (x % 10 + y % 10 + k) / 10) / 10,
    (x / 10 + y / 10 + (x % 10 + y % 10 + k) / 10) % 10, (x % 10 + y % 10 + k) % 10,
    by omega, by omega, by omega, by omega, by omega, by omega⟩

theorem bcd_digits {t u : Nat} (hu : u ≤ 9) : bcd (10 * t + u) = BitVec.ofNat 8 (16 * t + u) := by
  unfold bcd
  congr 1
  omega

/-- Two decimal numbers added as BCD bytes and corrected give their decimal sum, and the carry says whether it
exceeds 99: 6 is added where the units carry, 0x60 where the tens do. -/
theorem bcdAdd_add8_bcd {x y : Nat} (hx : x < 100) (hy : y < 100) {useCarry cf : Bool} {r : Res8}
    (hr : add8 (bcd x) (bcd y) useCarry cf = r) :
    (bcdAdd r.res r.flags).res = bcd ((x + y + bitNat (useCarry && cf)) % 100) ∧
      (bcdAdd r.res r.flags).flags.c = decide (99 < x + y + bitNat (useCarry && cf)) := by
  have hk := bitNat_le_one (useCarry && cf)
  have hres : r.res.toNat = ((bcd x).toNat + (bcd y).toNat + bitNat (useCarry && cf)) % 256 := by
    rw [← hr, add8, BitVec.toNat_ofNat]
  have hh : r.flags.h = decide ((bcd x).toNat % 16 + (bcd y).toNat % 16 + bitNat (useCarry && cf) > 15) := by
    rw [← hr]
    rfl
  have hc : r.flags.c = decide ((bcd x).toNat + (bcd y).toNat + bitNat (useCarry && cf) > 255) := by
    rw [← hr]
    rfl
  generalize bitNat (useCarry && cf) = k at *
  rw [toNat_bcd hx, toNat_bcd hy] at hres hh hc
  obtain ⟨c, d, t, u, hc1, hd1, ht, hu, hunits, htens⟩ := exists_decimal_carries hx hy hk
  have sum : x + y + k = 100 * d + (10 * t + u) := by omega
  have hexSum : x / 10 * 16 + x % 10 + (y / 10 * 16 + y % 10) + k + 6 * c + 96 * d = 256 * d + (16 * t + u) := by omega
  generalize x / 10 * 16 + x % 10 + (y / 10 * 16 + y % 10) + k = w at *
  have units : (r.flags.h = true ∨ r.res.toNat % 16 > 9) ↔ c = 1 := by
    rw [hh, decide_eq_true_iff]
    omega
  have tens : (bcdAdd r.res r.flags).flags.c = decide (d = 1) := by
    rw [bcdAdd_carry, hc, ← Bool.decide_or, decide_eq_decide]
    omega
  have result : (bcdAdd r.res r.flags).res = BitVec.ofNat 8 (16 * t + u) := by
    apply BitVec.eq_of_toNat_eq
    rw [bcdAdd_res, tens, BitVec.toNat_ofNat, BitVec.toNat_ofNat]
    simp only [units, decide_eq_true_iff]
    split <;> split <;> omega
  rw [result, tens, sum, decide_eq_decide]
  refine ⟨?_, by omega⟩
  rw [Nat.mul_add_mod, Nat.mod_eq_of_lt (by omega), bcd_digits hu]

/-- Two decimal numbers subtracted as BCD bytes and corrected give their decimal difference modulo 100, and the carry
says whether the whole borrowed: 6 is taken off where the units borrow, 0x60 where the tens do. -/
theorem bcdSub_sub8_bcd {x y : Nat} (hx : x < 100) (hy : y < 100) {reading : Config.SubHalfReading}
    {useCarry cf : Bool} {r : Res8} (hr : sub8 reading (bcd x) (bcd y) useCarry cf = r) :
    (bcdSub r.res r.flags).res = bcd ((x + 100 - y - bitNat (useCarry && cf)) % 100) ∧
      (bcdSub r.res r.flags).flags.c = decide (x < y + bitNat (useCarry && cf)) := by
  have hk := bitNat_le_one (useCarry && cf)
  have hres : r.res.toNat = ((bcd x).toNat + 512 - (bcd y).toNat - bitNat (useCarry && cf)) % 256 := by
    rw [← hr, sub8_res, BitVec.toNat_ofNat]
  have hc : r.flags.c = decide ((bcd x).toNat < (bcd y).toNat + bitNat (useCarry && cf)) := by
    rw [← hr]
    rfl
  have hlow {n : Nat} (hn : n < 100) : lowNibble (bcd n) = n % 10 := by
    rw [lowNibble, toNat_bcd hn]
    omega
  have units : r.flags.h = decide (x % 10 < y % 10 + bitNat (useCarry && cf)) := by
    rw [← hr, sub8_half_of_decimal (by rw [hlow hy]; omega), hlow hx, hlow hy]
  generalize bitNat (useCarry && cf) = k at *
  rw [toNat_bcd hx, toNat_bcd hy] at hres hc
  have tens : r.flags.c = decide (x < y + k) := by
    rw [hc, decide_eq_decide]
    omega
  refine ⟨?_, tens⟩
  apply BitVec.eq_of_toNat_eq
  rw [bcdSub_res, units, tens, toNat_bcd (Nat.mod_lt _ (by decide)), BitVec.toNat_ofNat, hres]
  simp only [decide_eq_true_iff]
  split <;> split <;> omega

end Sys2Proof.Machine

namespace Sys2Proof.Laws

open Sys2Proof.Machine Sys2Proof.Claims

/-- DAA's byte runs to decimal correction of A, with its four flags in F (R219). -/
theorem daa_runs {s : State} {r : Res8} (h : bcdCorrect s.cfg.daaMode s.a s.flags = r) :
    Runs [0x27] s (spent { s with a := r.res, f := fByte r.flags.z r.flags.n r.flags.h r.flags.c } 4) := by
  subst h
  refine ⟨.daa, rfl, ?_⟩
  rw [exec_eq_run, ← toByte_eq_fByte]
  rfl

/-- Settles O26: each direction of `bcd_correct` over numbers. -/
theorem daaRuns : Obligations.DaaRuns := by
  unfold Obligations.DaaRuns
  intro s
  constructor
  · intro h
    exact ⟨_, _, bcdAdd_carry s.a s.flags, bcdAdd_res s.a s.flags, daa_runs (bcdCorrect_eq_bcdAdd h s.a)⟩
  · rintro ⟨hn, hm⟩
    have h := daa_runs (s := s) (hm ▸ bcdCorrect_eq_bcdSub (fl := s.flags) hn s.a)
    rw [show (bcdSub s.a s.flags).flags.n = true from hn] at h
    exact ⟨_, bcdSub_res s.a s.flags, h⟩

/-- Settles O58: an accumulator operation reads no flag but the carry, and neither do INC and DEC. -/
theorem flagsAreTotal : Obligations.FlagsAreTotal := by
  unfold Obligations.FlagsAreTotal
  constructor
  · intro s s' op v ha hc hr
    have hc : s.flags.c = s'.flags.c := hc
    constructor
    · rw [alu_f, alu_f, ha, hc, hr]
    · rw [alu_a, alu_a, ha, hc, hr]
  · intro s s' p hv hc
    have hc : s.flags.c = s'.flags.c := hc
    simp only [modify8_f, hv, inc8_congr _ hc, dec8_congr _ hc, and_self]

/-- DAA right after an accumulator operation on an immediate corrects that operation's result by its flags. -/
theorem daa_after_aluImm {s t u : State} {i : Instr} {op : AluOp} {n : Byte} {r : Res8}
    (hi : shapeOf i = .aluImm op n) (hop : op ≠ .cp) (ht : exec i s = .next t) (hu : exec .daa t = .next u)
    (hr : aluResult s.cfg.subHalfReading op s.a n (cOf s.f) = r) :
    u.a = (bcdCorrect s.cfg.daaMode r.res r.flags).res ∧
      cOf u.f = (bcdCorrect s.cfg.daaMode r.res r.flags).flags.c := by
  obtain rfl : t = (s.alu op n).cycles 8 := by
    cases (exec_eq_run i s).symm.trans ht
    rw [hi]
    rfl
  have hres : (s.alu op n).a = r.res := by
    rw [alu_a, if_neg hop]
    exact congrArg Res8.res hr
  have hflags : (s.alu op n).flags = r.flags := by
    rw [State.flags, alu_f, ofByte_toByte]
    exact congrArg Res8.flags hr
  cases (exec_eq_run .daa _).symm.trans hu
  rw [← hres, ← hflags, ← alu_cfg s op n]
  exact ⟨rfl, cOf_toByte _⟩

/-- ADD or ADC of an immediate and DAA is decimal addition: both clear N, so DAA corrects upwards (R105). -/
theorem daa_after_addition {s t u : State} {i : Instr} {op : AluOp} {useCarry : Bool} {x y : Fin 100}
    (hi : shapeOf i = .aluImm op (bcd y)) (hop : op ≠ .cp)
    (hadd : ∀ a v cf, aluResult s.cfg.subHalfReading op a v cf = add8 a v useCarry cf)
    (ha : s.a = bcd x) (ht : exec i s = .next t) (hu : exec .daa t = .next u) :
    u.a = bcd ((x + y + carryIn useCarry s.f) % 100) ∧
      cOf u.f = decide (99 < x.val + y + carryIn useCarry s.f) := by
  obtain ⟨huA, huF⟩ := daa_after_aluImm hi hop ht hu (by rw [hadd, ha])
  obtain ⟨hres, hcarry⟩ := bcdAdd_add8_bcd x.isLt y.isLt (useCarry := useCarry) (cf := cOf s.f) rfl
  rw [bcdCorrect_eq_bcdAdd (.inl rfl)] at huA huF
  exact ⟨huA.trans hres, huF.trans hcarry⟩

/-- SUB or SBC of an immediate and DAA is decimal subtraction: both set N, so DAA corrects downwards where DAA_MODE
lets it (R106). -/
theorem daa_after_subtraction {s t u : State} {i : Instr} {op : AluOp} {useCarry : Bool} {x y : Fin 100}
    (hi : shapeOf i = .aluImm op (bcd y)) (hop : op ≠ .cp)
    (hsub : ∀ a v cf,
      aluResult s.cfg.subHalfReading op a v cf = sub8 s.cfg.subHalfReading a v useCarry cf)
    (ha : s.a = bcd x) (hm : s.cfg.daaMode = .lr35902) (ht : exec i s = .next t) (hu : exec .daa t = .next u) :
    u.a = bcd ((x + 100 - y - carryIn useCarry s.f) % 100) ∧
      cOf u.f = decide (x.val < y + carryIn useCarry s.f) := by
  obtain ⟨huA, huF⟩ := daa_after_aluImm hi hop ht hu (by rw [hsub, ha])
  obtain ⟨hres, hborrow⟩ := bcdSub_sub8_bcd x.isLt y.isLt (useCarry := useCarry) (cf := cOf s.f) rfl
  rw [hm, bcdCorrect_eq_bcdSub rfl] at huA huF
  exact ⟨huA.trans hres, huF.trans hborrow⟩

/-- Settles O59: ADD adds without a carry in, ADC with the flag. -/
theorem daaCorrectsDecimalAddition : Obligations.DaaCorrectsDecimalAddition := by
  unfold Obligations.DaaCorrectsDecimalAddition
  intro s t u x y ha
  exact ⟨daa_after_addition (useCarry := false) rfl (by decide) (fun _ _ _ => rfl) ha,
    daa_after_addition (useCarry := true) rfl (by decide) (fun _ _ _ => rfl) ha⟩

/-- Settles O60: SUB subtracts without a borrow in, SBC with the flag. -/
theorem daaCorrectsDecimalSubtraction : Obligations.DaaCorrectsDecimalSubtraction := by
  unfold Obligations.DaaCorrectsDecimalSubtraction
  intro s t u x y ha hm
  exact ⟨daa_after_subtraction (useCarry := false) rfl (by decide) (fun _ _ _ => rfl) ha hm,
    daa_after_subtraction (useCarry := true) rfl (by decide) (fun _ _ _ => rfl) ha hm⟩

end Sys2Proof.Laws

/-! ## Control instructions and the rounds they end in (R120 to R126, R300 to R313)

`poll_tookInterrupt` says what the rest of a round does when IME is set and a request is pending and enabled, and
`poll_eq_eiCommit` what it does with IME clear; the control instructions' rounds are read from the two. -/

namespace Sys2Proof.Machine

open Sys2Proof.Claims

/-! ### The end of a round -/

theorem endRound_of_stopped {s : State} (h : s.mode = .stopped) : s.endRound = s := by simp [State.endRound, h]

theorem endRound_of_fault {s : State} {op : Byte} {x : Word} (h : s.mode = .fault op x) : s.endRound = s := by
  simp [State.endRound, h]

theorem endRound_eq_poll {s : State} (h : s.mode = .active ∨ s.mode = .halted) : s.endRound = s.poll := by
  rcases h with h | h <;> simp [State.endRound, h]

theorem eiCommit_eq (s : State) :
    s.eiCommit = { s with ime := s.eiCommit.ime, eiPending := s.eiCommit.eiPending } := by
  rcases eiCommit_cases s with h | ⟨-, -, h⟩ | ⟨-, -, h⟩ <;> rw [h]

theorem eiCommit_mode (s : State) : s.eiCommit.mode = s.mode := by rw [eiCommit_eq]

/-- The EI commit never clears IME (R313). -/
theorem eiCommit_ime_of_ime {s : State} (h : s.ime = true) : s.eiCommit.ime = true := by
  rcases eiCommit_cases s with hs | ⟨-, -, hs⟩ | ⟨-, -, hs⟩ <;> simp [hs, h]

theorem eiCommit_of_none {s : State} (h : s.eiPending = .none) : s.eiCommit = s := by
  unfold State.eiCommit
  split
  · rfl
  · rw [h]

theorem eiCommit_of_armed {s : State} (hd : s.cfg.eiDelay = .one) (h : s.eiPending = .armed) :
    s.eiCommit = { s with eiPending := .ready } := by
  simp [State.eiCommit, hd, h]

theorem eiCommit_of_ready {s : State} (hd : s.cfg.eiDelay = .one) (h : s.eiPending = .ready) :
    s.eiCommit = { s with ime := true, eiPending := .none } := by
  simp [State.eiCommit, hd, h]

/-- With IME clear, the rest of a round is its EI commit, but for the wake of a halted core (R303, R307). -/
theorem poll_eq_eiCommit {s : State} (hi : s.eiCommit.ime = false) (hm : s.mode ≠ .halted) : s.poll = s.eiCommit := by
  rcases poll_cases s with ⟨k, hi', -⟩ | ⟨hm', -⟩ | ⟨-, h⟩
  · exact absurd (hi.symm.trans hi') Bool.false_ne_true
  · exact absurd ((eiCommit_mode s).symm.trans hm') hm
  · exact h

/-! ### An interrupt taken -/

theorem IrqSource.bit_lt (k : IrqSource) : k.bit < 5 := by cases k <;> decide

/-- A source is selected when its bit is the lowest one set (R303, R304). -/
theorem lowestSource_eq_some {p : Byte} {k : IrqSource} (h : lowestSource p = some k) :
    p.getLsbD k.bit = true ∧ ∀ j < k.bit, p.getLsbD j = false := by
  cases k
  all_goals
    revert p
    decide

theorem lowestSource_eq_none {p : Byte} (h : lowestSource p = none) {j : Nat} (hj : j < 5) : p.getLsbD j = false := by
  revert j p
  decide

/-- A request that is pending and enabled has a source (R303). -/
theorem exists_lowestSource {s : State} (h : s.pendingEnabled ≠ 0) : ∃ k, lowestSource s.pendingEnabled = some k := by
  refine Option.ne_none_iff_exists'.mp fun hn => h (BitVec.eq_of_getLsbD_eq fun j _ => ?_)
  by_cases hj : j < 5
  · simpa using lowestSource_eq_none hn hj
  · simp [pendingEnabled_getLsbD, hj]

/-- The push of a dispatch is two writes below SP, the high byte first, and the move of SP (R59, R309). -/
theorem pushAtomic_eq_writes (s : State) (v : Word) :
    s.pushAtomic v = ((s.memWrite (s.sp - 1) (hiByte v)).memWrite (s.sp - 2) (loByte v)).setSp (s.sp - 2) := by
  simp [State.pushAtomic, setSp_memWrite, sub_one_twice]

/-- A dispatch leaves the old PC on the stack where no pushed byte is dropped (R308). -/
theorem memRead_dispatch {s : State} (h : keepsPushed s) (v : Word) :
    (s.dispatch v).memRead (s.sp - 1) = hiByte s.pc ∧ (s.dispatch v).memRead (s.sp - 2) = loByte s.pc := by
  have hr (x : Word) : (s.dispatch v).memRead x = (s.pushAtomic s.pc).memRead x := rfl
  rw [hr, hr, pushAtomic_eq_writes]
  exact memRead_pushed h _ _

/-- The arbiter's write of IF does not change where a pushed byte is dropped. -/
theorem keepsPushed_memWrite_ifAddr {s : State} (h : keepsPushed s) (v : Byte) :
    keepsPushed (s.memWrite ifAddr v) := by
  have hlatch : Memory.read (s.memWrite ifAddr v).mem 0xFF50 = Memory.read s.mem 0xFF50 :=
    read_mem_memWrite_ne (x := ifAddr) (y := latchAddr) (by decide) v
  simpa only [keepsPushed, memWrite_cfg, memWrite_sp, hlatch] using h

/-- The dispatch of the source that the arbiter selects takes its interrupt (R303, R308). -/
theorem dispatch_tookInterrupt {s : State} {k : IrqSource} (hk : lowestSource s.pendingEnabled = some k) (v : Byte) :
    TookInterrupt s (State.dispatch { s.memWrite ifAddr v with ime := false } k.vector) := by
  obtain ⟨hset, hlow⟩ := lowestSource_eq_some hk
  refine ⟨rfl, ?_, ?_, ⟨⟨k.bit, k.bit_lt⟩, rfl, hset, hlow⟩, fun h => ?_⟩
  · obtain ⟨_, _, h⟩ := dispatch_eq { s.memWrite ifAddr v with ime := false } k.vector
    rw [h]
  · simp
  · have hpush := memRead_dispatch (s := { s.memWrite ifAddr v with ime := false })
      (keepsPushed_memWrite_ifAddr h v) k.vector
    simpa only [memWrite_sp, memWrite_pc, hiByte_eq, loByte_eq] using hpush

/-- The EI commit changes nothing that an interrupt's address, vector and stack are read from. -/
theorem tookInterrupt_of_eiCommit {s t : State} (h : TookInterrupt s.eiCommit t) : TookInterrupt s t := by
  rw [eiCommit_eq] at h
  exact h

/-- With IME set once the EI commit is done, and a request pending and enabled, the poll takes an interrupt (R307). -/
theorem poll_tookInterrupt {s : State} (hi : s.eiCommit.ime = true) (hp : s.pendingEnabled ≠ 0) :
    TookInterrupt s s.poll := by
  have hp' : s.eiCommit.pendingEnabled ≠ 0 := by
    rw [eiCommit_eq]
    exact hp
  obtain ⟨k, hk⟩ := exists_lowestSource hp'
  have hpoll : s.poll = State.dispatch
      { s.eiCommit.memWrite ifAddr (s.eiCommit.memRead ifAddr &&& ~~~k.mask) with ime := false } k.vector := by
    simp [State.poll, State.arbiter, hi, hk]
  rw [hpoll]
  exact tookInterrupt_of_eiCommit (dispatch_tookInterrupt hk _)

end Sys2Proof.Machine

namespace Sys2Proof.Laws

open Sys2Proof.Machine Sys2Proof.Claims

/-! ### PREFIX CB (R125) -/

/-- Each of the 256 extended rows does what the fields of its second byte say (R91, R96, R244). -/
theorem exec_extendedRow (op2 : Byte) (s : State) : exec (extendedRow op2) s = .next (s.extended op2) := by
  obtain ⟨n, hn, rfl⟩ : ∃ n < 256, op2 = BitVec.ofNat 8 n := ⟨op2.toNat, op2.isLt, by simp⟩
  interval_cases n
  all_goals rfl

theorem extendedCycles_placeOfCode {z : Nat} (hz : z < 8) (x : Nat) :
    extendedCycles x (placeOfCode z) = if z ≠ 6 then 8 else if x = 1 then 12 else 16 := by
  interval_cases z
  all_goals rfl

/-- Settles O6: the row does what the generic form does, and that is a data step which counts the cycles of R244. -/
theorem prefixRunsTheExtendedRow : Obligations.PrefixRunsTheExtendedRow := by
  unfold Obligations.PrefixRunsTheExtendedRow
  intro op2 s
  refine ⟨rfl, (exec_extendedRow op2 s).symm, _, exec_eq_run (.prefixCb op2) s, ?_⟩
  have hcycles := extendedCycles_placeOfCode (Nat.mod_lt op2.toNat (by decide : 8 > 0)) (op2.toNat / 64)
  obtain ⟨u, n, hu, hdata, -⟩ := extended_cases s op2
  refine ⟨?_, ?_, hcycles⟩
  · exact (congrArg State.pc hu).trans hdata.pc
  · exact (congrArg State.sp hu).trans hdata.sp

/-! ### The delay of EI (R124, R313) -/

/-- Where an EI is armed with IME clear, the round only makes it ready. -/
theorem endRound_of_armed {s : State} (hd : s.cfg.eiDelay = .one) (hi : s.ime = false) (hp : s.eiPending = .armed)
    (hm : s.mode = .active) : s.endRound = { s with eiPending := .ready } := by
  have hc : s.eiCommit = { s with eiPending := .ready } := eiCommit_of_armed hd hp
  rw [endRound_eq_poll (.inl hm), poll_eq_eiCommit (by rw [hc, hi]) (by rw [hm]; decide), hc]

theorem exec_di (s : State) : exec .di s = .next (spent s.disableInterrupts 4) := exec_eq_run .di s

theorem exec_ei (s : State) : exec .ei s = .next (spent s.enableInterrupts 4) := exec_eq_run .ei s

theorem exec_ei_of_none {s : State} (hd : s.cfg.eiDelay = .one) (hp : s.eiPending = .none) :
    exec .ei s = .next (spent { s with eiPending := .armed } 4) := by
  simp [exec_ei, State.enableInterrupts, hd, hp]

/-- A second EI leaves the pending one as it is. -/
theorem exec_ei_of_pending {s : State} (hd : s.cfg.eiDelay = .one) (hp : s.eiPending ≠ .none) :
    exec .ei s = .next (spent s 4) := by
  cases h : s.eiPending with
  | none => exact absurd h hp
  | armed | ready => simp [exec_ei, State.enableInterrupts, hd, h]

/-- With an EI ready, the EI commit after any instruction but DI leaves IME set and nothing pending. -/
theorem eiCommit_after_ready {i : Instr} {s u : State} (hd : s.cfg.eiDelay = .one) (hp : s.eiPending = .ready)
    (hi : i ≠ .di) (hu : exec i s = .next u) : u.eiCommit.ime = true ∧ u.eiCommit.eiPending = .none := by
  obtain ⟨-, hframe, -, -, hcfg, -⟩ := controlStateFrame i s u hu
  have hdu : u.cfg.eiDelay = .one := by rw [hcfg, hd]
  have hready (h : u.eiPending = .ready) : u.eiCommit.ime = true ∧ u.eiCommit.eiPending = .none := by
    rw [eiCommit_of_ready hdu h]
    exact ⟨rfl, rfl⟩
  by_cases he : i = .ei
  · subst he
    cases (exec_ei_of_pending hd (by rw [hp]; decide)).symm.trans hu
    exact hready hp
  by_cases hr : i = .reti
  · subst hr
    cases (exec_eq_run .reti s).symm.trans hu
    rw [eiCommit_of_none rfl]
    exact ⟨rfl, rfl⟩
  · exact hready ((hframe hi he hr).2.trans hp)

/-- From an active core every instruction's round has an EI commit and a poll, but STOP's and a fault's (R307). -/
theorem endRound_eq_poll_of_exec {i : Instr} {s u : State} (hm : s.mode = .active) (hs : i ≠ .stop)
    (hi : ∀ op, i ≠ .illegal op) (hu : exec i s = .next u) : u.endRound = u.poll := by
  refine endRound_eq_poll ?_
  by_cases hh : i = .halt
  · subst hh
    cases (exec_eq_run .halt s).symm.trans hu
    exact .inr rfl
  · obtain ⟨hmode, -⟩ := controlStateFrame i s u hu
    exact .inl ((hmode hh hs hi).trans hm)

/-- STOP and an unrecognized opcode end their round at once (R300, R307). -/
theorem endRound_eq_self_of_exec {i : Instr} {s u : State} (hi : i = .stop ∨ ∃ op, i = .illegal op)
    (hu : exec i s = .next u) : u.endRound = u := by
  rcases hi with rfl | ⟨op, rfl⟩
  · cases (exec_eq_run .stop s).symm.trans hu
    exact endRound_of_stopped rfl
  · cases (exec_eq_run (.illegal op) s).symm.trans hu
    exact endRound_of_fault rfl

/-- Settles O51: the EI's own round makes it ready, and the next instruction's commit finds it so. -/
theorem delayedEiTakesOneInstruction : Obligations.DelayedEiTakesOneInstruction := by
  unfold Obligations.DelayedEiTakesOneInstruction
  intro s t i u hd hi hp hm ht
  cases (exec_ei_of_none hd hp).symm.trans ht
  have hround : (spent { s with eiPending := .armed } 4).endRound = spent { s with eiPending := .ready } 4 :=
    endRound_of_armed hd hi rfl hm
  rw [hround]
  exact ⟨⟨hi, rfl, rfl, rfl⟩, eiCommit_after_ready hd rfl, endRound_eq_poll_of_exec hm, endRound_eq_self_of_exec⟩

/-! ### STOP and HALT (R121, R122, R311, R319) -/

/-- A halted core's step is an idle round: its cycles, and the rest of the round (R307). -/
theorem step_of_halted_eq_poll {s : State} (h : s.mode = .halted) :
    step s = .next (spent s.landEnv s.cfg.haltIdleCycles).poll := by
  rw [step_of_halted h, State.idleRound, landEnv_cfg]
  rfl

/-- Settles O8: each round that finds IME set and a request pending and enabled takes an interrupt. -/
theorem stopAndHaltRun : Obligations.StopAndHaltRun := by
  unfold Obligations.StopAndHaltRun
  intro s ignored
  refine ⟨fun hl => ⟨.stop, by rw [hl]; rfl, rfl⟩, fun hl => ⟨.stop, by rw [hl]; rfl, rfl⟩, fun hm => ?_,
    ⟨.halt, rfl, rfl⟩, fun hi hp => ?_, step_of_halted_eq_poll, fun _ hi hp => ?_⟩
  · exact ⟨endRound_of_stopped hm, step_of_ended (by simp [hm]) (by simp [hm])⟩
  · rw [endRound_eq_poll (.inr rfl)]
    exact poll_tookInterrupt (s := spent { s with mode := .halted } 4) (eiCommit_ime_of_ime hi) hp
  · have hi' : s.landEnv.ime = true := by rw [landEnv_ime, hi]
    exact poll_tookInterrupt (s := spent s.landEnv s.cfg.haltIdleCycles) (eiCommit_ime_of_ime hi') hp

/-! ### NOP, DI and EI (R120, R123, R124) -/

theorem exec_di_of_eiDelay_zero {s : State} (hd : s.cfg.eiDelay = .zero) :
    exec .di s = .next (spent { s with ime := false } 4) := by
  simp [exec_di, State.disableInterrupts, hd]

theorem exec_di_of_eiDelay_one {s : State} (hd : s.cfg.eiDelay = .one) :
    exec .di s = .next (spent { s with ime := false, eiPending := .none } 4) := by
  simp [exec_di, State.disableInterrupts, hd]

theorem exec_ei_of_eiDelay_zero {s : State} (hd : s.cfg.eiDelay = .zero) :
    exec .ei s = .next (spent { s with ime := true } 4) := by
  simp [exec_ei, State.enableInterrupts, hd]

/-- After DI the rest of the round changes nothing: IME is clear and no EI is left to commit (R123). -/
theorem endRound_after_di {s t : State} (hm : s.mode = .active) (ht : exec .di s = .next t) : t.endRound = t := by
  have hround {u : State} (hu : u.mode = .active) (hi : u.ime = false) (hc : u.eiCommit = u) : u.endRound = u := by
    rw [endRound_eq_poll (.inl hu), poll_eq_eiCommit (by rw [hc, hi]) (by rw [hu]; decide), hc]
  cases hd : s.cfg.eiDelay with
  | zero =>
    cases (exec_di_of_eiDelay_zero hd).symm.trans ht
    exact hround hm rfl (by simp [State.eiCommit, spent, hd])
  | one =>
    cases (exec_di_of_eiDelay_one hd).symm.trans ht
    exact hround hm rfl (eiCommit_of_none rfl)

/-- Settles O15, one lemma for each form of DI and EI. -/
theorem controlInstructionsRun : Obligations.ControlInstructionsRun := by
  unfold Obligations.ControlInstructionsRun
  intro s
  refine ⟨⟨.nop, rfl, rfl⟩, fun hd => ⟨.di, rfl, exec_di_of_eiDelay_zero hd⟩,
    fun hd => ⟨.di, rfl, exec_di_of_eiDelay_one hd⟩, ?_, fun hd => ⟨.ei, rfl, exec_ei_of_eiDelay_zero hd⟩,
    fun hd hp => ⟨.ei, rfl, exec_ei_of_none hd hp⟩, fun hd hp => ⟨.ei, rfl, exec_ei_of_pending hd hp⟩⟩
  rintro hm t ⟨i, hdecode, ht⟩
  have hi : decode s.cfg.stopLength [0xF3] = .ok (.di, []) := rfl
  cases hi.symm.trans hdecode
  exact endRound_after_di hm ht

/-! ### The unrecognized opcodes (R126, R300) -/

/-- With PC past an unrecognized opcode fetched at `x`, its fault names `x` (R126). -/
theorem run_illegal_setPc (s : State) (op : Byte) (x : Word) :
    (shapeOf (.illegal op)).run (s.setPc (x + 1)) = { s with mode := .fault op x, pc := x + 1 } := by
  have hx : x + 1 - 1 = x := by bv_omega
  simp only [shapeOf, Shape.run, State.raiseDecodeFault, State.setPc, hx]

/-- Settles O16: the fetch of the round reads the opcode's own row, and its fault ends the round and every later one. -/
theorem unrecognizedOpcodeFaults : Obligations.UnrecognizedOpcodeFaults := by
  unfold Obligations.UnrecognizedOpcodeFaults
  intro s hm hq hop
  refine ⟨?_, step_of_ended nofun nofun⟩
  have hfetch : s.landEnv.fetch = (.illegal (s.landEnv.memRead s.pc), s.landEnv.setPc (s.pc + 1)) := by
    rw [fetch_quiet hq, landEnv_pc, primaryRow_of_unrecognized hop]
    rfl
  rw [step_of_active hm, hfetch, run_illegal_setPc, endRound_of_fault rfl]

end Sys2Proof.Laws

/-! ## The 8-bit loads and stores (R141 to R159)

`runs_of_shape` reads what bytes run to from the shape of the instruction they hold; the load forms then differ only in
the shape, and in the two spellings of a word proved here: a last-page address, and HL after the access. -/

namespace Sys2Proof.Machine

/-- The last page's addresses as `0xFF00 + n` (R82). -/
theorem highPage_eq_add (n : Byte) : highPage n = 0xFF00#16 + n.setWidth 16 := by
  revert n
  decide

@[simp] theorem store_hl (s : State) (x : Word) (v : Byte) : (s.store x v).hl = s.hl := by
  simp [State.store, State.hl]

@[simp] theorem load_a_hl (s : State) (x : Word) : (s.load .a x).hl = s.hl :=
  congrArg₂ join (afterAccess_h s) (afterAccess_l s)

/-- A stepping store moves the HL it addressed, as a store changes no register (R156, R157). -/
theorem stepHl_store (s : State) (x d : Word) (v : Byte) : (s.store x v).stepHl d = (s.store x v).setHl (s.hl + d) := by
  rw [State.stepHl, store_hl]

/-- A stepping load moves the HL it addressed, as a load of A leaves HL (R158, R159). -/
theorem stepHl_load_a (s : State) (x d : Word) : (s.load .a x).stepHl d = (s.load .a x).setHl (s.hl + d) := by
  rw [State.stepHl, load_a_hl]

end Sys2Proof.Machine

namespace Sys2Proof.Laws

open Sys2Proof.Machine Sys2Proof.Claims

/-- Bytes that are, whole, an instruction of a shape run to what the shape does. -/
theorem runs_of_shape {bytes : List Byte} {s : State} (sh : Shape)
    (h : ∃ i, decode s.cfg.stopLength bytes = .ok (i, []) ∧ shapeOf i = sh) : Runs bytes s (sh.run s) := by
  obtain ⟨i, hdecode, rfl⟩ := h
  exact ⟨i, hdecode, exec_eq_run i s⟩

/-! ### The forms with a register code (R85, R141 to R144) -/

section
variable (sl : Config.StopLength) (dst src : Reg8)

theorem decode_copyReg :
    ∃ i, decode sl [0b01#2 ++ dst.code ++ src.code] = .ok (i, []) ∧ shapeOf i = .copyReg dst src := by
  cases dst <;> cases src <;> exact ⟨_, rfl, rfl⟩

theorem decode_loadImm (n : Byte) :
    ∃ i, decode sl [0b00#2 ++ dst.code ++ 0b110#3, n] = .ok (i, []) ∧ shapeOf i = .loadImm dst n := by
  cases dst <;> exact ⟨_, rfl, rfl⟩

theorem decode_loadAtHl :
    ∃ i, decode sl [0b01#2 ++ dst.code ++ 0b110#3] = .ok (i, []) ∧ shapeOf i = .loadAtHl dst := by
  cases dst <;> exact ⟨_, rfl, rfl⟩

theorem decode_storeAtHl :
    ∃ i, decode sl [0b01#2 ++ 0b110#3 ++ src.code] = .ok (i, []) ∧ shapeOf i = .storeAtHl src := by
  cases src <;> exact ⟨_, rfl, rfl⟩

end

/-- Settles O17: each form is one shape, whatever registers its codes name. -/
theorem registerLoadsRun : Obligations.RegisterLoadsRun := by
  unfold Obligations.RegisterLoadsRun
  intro s dst src n
  exact ⟨runs_of_shape (.copyReg dst src) (decode_copyReg _ dst src),
    runs_of_shape (.loadImm dst n) (decode_loadImm _ dst n),
    runs_of_shape (.loadAtHl dst) (decode_loadAtHl _ dst),
    runs_of_shape (.storeAtHl src) (decode_storeAtHl _ src),
    runs_of_shape (.storeImmAtHl n) ⟨.ldAtHlN n, rfl, rfl⟩⟩

/-- Settles O18: each opcode is a load or a store of A at an address its shape names. -/
theorem accumulatorTransfersRun : Obligations.AccumulatorTransfersRun := by
  unfold Obligations.AccumulatorTransfersRun
  intro s n lo hi
  rw [← highPage_eq_add, ← highPage_eq_add]
  exact ⟨runs_of_shape (.loadAtPair .bc) ⟨.ldAAtBc, rfl, rfl⟩,
    runs_of_shape (.loadAtPair .de) ⟨.ldAAtDe, rfl, rfl⟩,
    runs_of_shape (.storeAtPair .bc) ⟨.ldAtBcA, rfl, rfl⟩,
    runs_of_shape (.storeAtPair .de) ⟨.ldAtDeA, rfl, rfl⟩,
    runs_of_shape (.loadAbs (join hi lo)) ⟨.ldAAtNn (join hi lo), rfl, rfl⟩,
    runs_of_shape (.storeAbs (join hi lo)) ⟨.ldAtNnA (join hi lo), rfl, rfl⟩,
    runs_of_shape (.loadHigh n) ⟨.ldhAAtN n, rfl, rfl⟩,
    runs_of_shape (.storeHigh n) ⟨.ldhAtNA n, rfl, rfl⟩,
    runs_of_shape .loadHighC ⟨.ldAAtC, rfl, rfl⟩,
    runs_of_shape .storeHighC ⟨.ldAtCA, rfl, rfl⟩⟩

/-! ### The stepping forms (R156 to R159) -/

/-- Bytes of a stepping store of A run to the store, with HL then `d` further on (R156, R157). -/
theorem runs_storeStep {bytes : List Byte} {s : State} {d : Word}
    (h : ∃ i, decode s.cfg.stopLength bytes = .ok (i, []) ∧ shapeOf i = .storeStep d) :
    Runs bytes s (spent ((s.store s.hl s.a).setHl (s.hl + d)) 8) := by
  rw [← stepHl_store]
  exact runs_of_shape (.storeStep d) h

/-- Bytes of a stepping load of A run to the load, with HL then `d` further on (R158, R159). -/
theorem runs_loadStep {bytes : List Byte} {s : State} {d : Word}
    (h : ∃ i, decode s.cfg.stopLength bytes = .ok (i, []) ∧ shapeOf i = .loadStep d) :
    Runs bytes s (spent ((s.load .a s.hl).setHl (s.hl + d)) 8) := by
  rw [← stepHl_load_a]
  exact runs_of_shape (.loadStep d) h

/-- Settles O19: a step down adds -1. -/
theorem steppingTransfersRun : Obligations.SteppingTransfersRun := by
  unfold Obligations.SteppingTransfersRun
  intro s
  rw [BitVec.sub_eq_add_neg]
  exact ⟨runs_storeStep ⟨.ldAtHlIncA, rfl, rfl⟩, runs_storeStep ⟨.ldAtHlDecA, rfl, rfl⟩,
    runs_loadStep ⟨.ldAAtHlInc, rfl, rfl⟩, runs_loadStep ⟨.ldAAtHlDec, rfl, rfl⟩⟩

end Sys2Proof.Laws

/-! ## The 16-bit loads and the stack (R109, R171 to R178)

Every form is one shape. What LD HL,SP+e computes is stated of bit vectors, and proved here to be the sum and the flags
of numbers. -/

namespace Sys2Proof.Machine

open Sys2Proof.Claims

/-! ### Sums of 16 bits as numbers (R83, R102, R109) -/

theorem toNat_loByte (v : Word) : (loByte v).toNat = v.toNat % 256 := by
  rw [loByte_eq, BitVec.toNat_setWidth]

/-- A displacement byte read as two's complement is its displacement modulo 2^16 (R83). -/
theorem toNat_sext16 (e : Byte) : (sext16 e).toNat = displacement e := by
  revert e
  decide

/-- `add16` without a carry in gives the sum (R102). -/
theorem add16_res (a b : Word) (cf : Bool) : (add16 a b false cf).res = BitVec.ofNat 16 (a.toNat + b.toNat) := rfl

/-- `add16` without a carry in writes the flags of the sum (R102). -/
theorem add16_flags (a b : Word) (cf : Bool) :
    (add16 a b false cf).flags.toByte &&& 0xF0 = sumF16 a.toNat b.toNat := by
  rw [toByte_eq_fByte]
  simp [add16, sumF16, bitNat, toNat_loByte, ← BitVec.toNat_inj]

/-- SP + e is the same sum under both FLAG16_MODE values (R109). -/
theorem spPlusE_res (mode : Config.Flag16Mode) (sp : Word) (e : Byte) (fl : Flags) :
    (spPlusE mode sp e fl).res = BitVec.ofNat 16 (sp.toNat + displacement e) := by
  rw [← toNat_sext16]
  cases mode with
  | source => exact add16_res sp (sext16 e) fl.c
  | lr35902 => exact BitVec.add_def sp (sext16 e)

/-- SP + e writes the flags of the whole sum, or those of the low byte, as FLAG16_MODE says (R109). -/
theorem spPlusE_flags (mode : Config.Flag16Mode) (sp : Word) (e : Byte) (fl : Flags) :
    (spPlusE mode sp e fl).flags.toByte &&& 0xF0 = spRelF mode sp.toNat e.toNat (displacement e) := by
  cases mode with
  | source =>
    rw [← toNat_sext16]
    exact add16_flags sp (sext16 e) fl.c
  | lr35902 =>
    rw [toByte_eq_fByte]
    simp [spPlusE, spRelF, lowNibble, toNat_loByte]

/-- LD HL,SP+e puts the sum in HL and its flags in F (R174). -/
theorem loadHlSpRel_eq (s : State) (e : Byte) :
    s.loadHlSpRel e =
      { s with f := spRelF s.cfg.flag16Mode s.sp.toNat e.toNat (displacement e) }.setHl
        (BitVec.ofNat 16 (s.sp.toNat + displacement e)) := by
  rw [State.loadHlSpRel, spPlusE_res, ← spPlusE_flags _ _ _ s.flags]
  rfl

end Sys2Proof.Machine

namespace Sys2Proof.Laws

open Sys2Proof.Machine Sys2Proof.Claims

theorem decode_loadPair (sl : Config.StopLength) (p : Pair) (lo hi : Byte) :
    ∃ i, decode sl [0b00#2 ++ p.code ++ 0b0001#4, lo, hi] = .ok (i, []) ∧ shapeOf i = .loadPair p (hi ++ lo) := by
  cases p <;> exact ⟨_, rfl, rfl⟩

/-- Settles O20: each form is one shape, and `Write16` is two stores, the low byte first. -/
theorem sixteenBitLoadsRun : Obligations.SixteenBitLoadsRun := by
  unfold Obligations.SixteenBitLoadsRun
  intro s p lo hi e
  rw [← loadHlSpRel_eq]
  exact ⟨runs_of_shape (.loadPair p (hi ++ lo)) (decode_loadPair _ p lo hi),
    runs_of_shape (.storeSp (hi ++ lo)) ⟨.ldAtNnSp (hi ++ lo), rfl, rfl⟩,
    runs_of_shape .spFromHl ⟨.ldSpHl, rfl, rfl⟩,
    runs_of_shape (.hlFromSpRel e) ⟨.ldHlSpRel e, rfl, rfl⟩⟩

/-- Settles O21: a pair is pushed as its two bytes joined, and popped as the two bytes of the word. -/
theorem pushAndPopRun : Obligations.PushAndPopRun := by
  unfold Obligations.PushAndPopRun
  intro s
  exact ⟨runs_of_shape (.push .bc) ⟨.pushBc, rfl, rfl⟩, runs_of_shape (.push .de) ⟨.pushDe, rfl, rfl⟩,
    runs_of_shape (.push .hl) ⟨.pushHl, rfl, rfl⟩, runs_of_shape (.push .af) ⟨.pushAf, rfl, rfl⟩,
    runs_of_shape (.pop .bc) ⟨.popBc, rfl, rfl⟩, runs_of_shape (.pop .de) ⟨.popDe, rfl, rfl⟩,
    runs_of_shape (.pop .hl) ⟨.popHl, rfl, rfl⟩, runs_of_shape (.pop .af) ⟨.popAf, rfl, rfl⟩⟩

end Sys2Proof.Laws

/-! ## The 8-bit arithmetic and logic (R100, R101, R103, R191 to R218, R220 to R222)

`runs_alu` runs an accumulator operation in its operand forms. The model computes on bit vectors and the statements on
numbers; the `alu_eq` lemmas carry each operation's result and flags from the one to the other. -/

namespace Sys2Proof.Machine

open Sys2Proof.Claims

/-- `SetFlags` as an update of F alone (R22, R100). -/
theorem setFlags_eq (s : State) (fl : Flags) : s.setFlags fl = { s with f := fByte fl.z fl.n fl.h fl.c } := by
  rw [← toByte_eq_fByte]
  rfl

theorem bitNat_eq_carryIn (useCarry : Bool) (f : Byte) :
    bitNat (useCarry && (Flags.ofByte f).c) = carryIn useCarry f := by
  change bitNat (useCarry && cOf f) = if useCarry && cOf f then 1 else 0
  cases useCarry && cOf f <;> rfl

/-! ### Sums and differences of 8 bits as numbers -/

/-- `add8` writes the flags of the sum (R101). -/
theorem add8_flags (a b : Byte) (useCarry cf : Bool) :
    (add8 a b useCarry cf).flags.toByte &&& 0xF0 = sumF a.toNat b.toNat (bitNat (useCarry && cf)) := by
  rw [toByte_eq_fByte]
  simp [add8, sumF, lowNibble, ← BitVec.toNat_inj]

/-- `sub8` writes the flags of the difference, with the half-borrow its reading asks for (R103). -/
theorem sub8_flags (reading : Config.SubHalfReading) (a b : Byte) (useCarry cf : Bool) :
    (sub8 reading a b useCarry cf).flags.toByte &&& 0xF0 =
      differenceF reading a.toNat b.toNat (bitNat (useCarry && cf)) := by
  have hz : (sub8 reading a b useCarry cf).flags.z =
      decide ((a.toNat + 512 - b.toNat - bitNat (useCarry && cf)) % 256 = 0) := by
    change decide ((sub8 reading a b useCarry cf).res = 0) = _
    rw [sub8_res, decide_eq_decide, ← BitVec.toNat_inj, BitVec.toNat_ofNat]
    rfl
  rw [toByte_eq_fByte, hz]
  cases reading with
  | nibblePlusBorrow => rfl
  | nibbleOfSum =>
    have hmod (m : Nat) : m % 256 % 16 = m % 16 := Nat.mod_mod_of_dvd m (by decide)
    simp [sub8, differenceF, lowNibble, hmod]

/-! ### The operations on A in terms of numbers -/

section
variable {op : AluOp} {useCarry : Bool} (s : State) (v : Byte)

/-- Every accumulator operation but CP writes its result to A and its flags to F, and nothing else (R190). -/
theorem alu_eq (hop : op ≠ .cp) :
    s.alu op v =
      { s with
        a := (aluResult s.cfg.subHalfReading op s.a v s.flags.c).res
        f := (aluResult s.cfg.subHalfReading op s.a v s.flags.c).flags.toByte &&& 0xF0 } := by
  cases op with
  | cp => exact absurd rfl hop
  | add | adc | sub | sbc | and | xor | or => rfl

/-- An operation that adds leaves the sum in A and its flags in F (R191, R194). -/
theorem alu_eq_sum (hop : op ≠ .cp) (hadd : ∀ reading a b cf, aluResult reading op a b cf = add8 a b useCarry cf) :
    s.alu op v =
      { s with
        a := BitVec.ofNat 8 (s.a.toNat + v.toNat + carryIn useCarry s.f)
        f := sumF s.a.toNat v.toNat (carryIn useCarry s.f) } := by
  rw [alu_eq s v hop, hadd, add8_flags, ← bitNat_eq_carryIn]
  rfl

/-- An operation that subtracts leaves the difference in A and its flags in F (R197, R200). -/
theorem alu_eq_difference (hop : op ≠ .cp)
    (hsub : ∀ reading a b cf, aluResult reading op a b cf = sub8 reading a b useCarry cf) :
    s.alu op v =
      { s with
        a := BitVec.ofNat 8 (s.a.toNat + 512 - v.toNat - carryIn useCarry s.f)
        f := differenceF s.cfg.subHalfReading s.a.toNat v.toNat (carryIn useCarry s.f) } := by
  rw [alu_eq s v hop, hsub, sub8_flags, sub8_res, ← bitNat_eq_carryIn]
  rfl

/-- CP writes the flags of SUB alone (R212). -/
theorem alu_cp : s.alu .cp v = { s with f := differenceF s.cfg.subHalfReading s.a.toNat v.toNat 0 } :=
  congrArg (fun f => { s with f := f }) (sub8_flags s.cfg.subHalfReading s.a v false s.flags.c)

/-- A logic operation leaves its result in A, and its flags are Z of the result and H (R203, R206, R209). -/
theorem alu_eq_logic {res : Byte} {h : Bool} (hop : op ≠ .cp)
    (hres : aluResult s.cfg.subHalfReading op s.a v s.flags.c = logic8 res h) :
    s.alu op v = { s with a := res, f := fByte (decide (res = 0)) false h false } := by
  rw [alu_eq s v hop, hres, toByte_eq_fByte]
  rfl

end

/-! ### INC, DEC and CPL in terms of numbers -/

/-- INC of an operand writes F, then the operand one further on (R215, R216). -/
theorem modify8_inc8 (s : State) (p : Place) :
    s.modify8 p inc8 =
      { s.afterRead p with
        f := fByte (decide (s.value p = 0xFF)) false (decide ((s.value p).toNat % 16 = 15)) (cOf s.f) }.put p
          (BitVec.ofNat 8 ((s.value p).toNat + 1)) := by
  have hz : s.value p + 1 = 0 ↔ s.value p = 0xFF := by bv_omega
  rw [State.modify8, setFlags_eq, ← decide_eq_decide.mpr hz]
  rfl

/-- DEC of an operand writes F, then the operand one back (R217, R218). -/
theorem modify8_dec8 (s : State) (p : Place) :
    s.modify8 p dec8 =
      { s.afterRead p with
        f := fByte (decide (s.value p = 0x01)) true (decide ((s.value p).toNat % 16 = 0)) (cOf s.f) }.put p
          (BitVec.ofNat 8 ((s.value p).toNat + 255)) := by
  have hz : s.value p - 1 = 0 ↔ s.value p = 0x01 := by bv_omega
  have hres : s.value p - 1 = BitVec.ofNat 8 ((s.value p).toNat + 255) := by bv_omega
  rw [State.modify8, setFlags_eq, ← decide_eq_decide.mpr hz, ← hres]
  rfl

/-- CPL leaves 255 - A in A (R220). -/
theorem complementA_eq (s : State) :
    s.complementA =
      { s with a := BitVec.ofNat 8 (255 - s.a.toNat), f := fByte (zOf s.f) true true (cOf s.f) } := by
  have hres : ~~~s.a = BitVec.ofNat 8 (255 - s.a.toNat) := by bv_omega
  rw [State.complementA, setFlags_eq, hres]
  rfl

end Sys2Proof.Machine

namespace Sys2Proof.Laws

open Sys2Proof.Machine Sys2Proof.Claims

/-! ### The operand forms (R85, R89, R191 to R218) -/

section
variable (sl : Config.StopLength) (op : AluOp) (p : Place)

theorem decode_aluPlace :
    ∃ i, decode sl [0b10#2 ++ op.code ++ p.code] = .ok (i, []) ∧ shapeOf i = .aluPlace op p (aluCycles p) := by
  cases p with
  | reg r => cases op <;> cases r <;> exact ⟨_, rfl, rfl⟩
  | atHl => cases op <;> exact ⟨_, rfl, rfl⟩

theorem decode_aluImm (n : Byte) :
    ∃ i, decode sl [0b11#2 ++ op.code ++ 0b110#3, n] = .ok (i, []) ∧ shapeOf i = .aluImm op n := by
  cases op <;> exact ⟨_, rfl, rfl⟩

theorem decode_incPlace :
    ∃ i, decode sl [0b00#2 ++ p.code ++ 0b100#3] = .ok (i, []) ∧ shapeOf i = .incPlace p (incCycles p) := by
  cases p with
  | reg r => cases r <;> exact ⟨_, rfl, rfl⟩
  | atHl => exact ⟨_, rfl, rfl⟩

theorem decode_decPlace :
    ∃ i, decode sl [0b00#2 ++ p.code ++ 0b101#3] = .ok (i, []) ∧ shapeOf i = .decPlace p (incCycles p) := by
  cases p with
  | reg r => cases r <;> exact ⟨_, rfl, rfl⟩
  | atHl => exact ⟨_, rfl, rfl⟩

end

section
variable {op : AluOp} {useCarry : Bool} (s : State) (p : Place) (n : Byte)

/-- An accumulator operation on a place and on an immediate is the same operation on the operand's value (R190). -/
theorem runs_alu (op : AluOp) :
    Runs [0b10#2 ++ op.code ++ p.code] s (spent ((s.afterRead p).alu op (s.value p)) (aluCycles p)) ∧
      Runs [0b11#2 ++ op.code ++ 0b110#3, n] s (spent (s.alu op n) 8) :=
  ⟨runs_of_shape (.aluPlace op p (aluCycles p)) (decode_aluPlace _ op p),
    runs_of_shape (.aluImm op n) (decode_aluImm _ op n)⟩

/-- An operation that adds, in its operand forms (R191 to R196). -/
theorem runs_sum (hop : op ≠ .cp) (hadd : ∀ reading a b cf, aluResult reading op a b cf = add8 a b useCarry cf) :
    Runs [0b10#2 ++ op.code ++ p.code] s
      (spent { s.afterRead p with
        a := BitVec.ofNat 8 (s.a.toNat + (s.value p).toNat + carryIn useCarry s.f)
        f := sumF s.a.toNat (s.value p).toNat (carryIn useCarry s.f) } (aluCycles p)) ∧
    Runs [0b11#2 ++ op.code ++ 0b110#3, n] s
      (spent { s with
        a := BitVec.ofNat 8 (s.a.toNat + n.toNat + carryIn useCarry s.f)
        f := sumF s.a.toNat n.toNat (carryIn useCarry s.f) } 8) := by
  simpa only [alu_eq_sum _ _ hop hadd, afterRead_a, afterRead_f] using runs_alu s p n op

/-- An operation that subtracts, in its operand forms (R197 to R202). -/
theorem runs_difference (hop : op ≠ .cp)
    (hsub : ∀ reading a b cf, aluResult reading op a b cf = sub8 reading a b useCarry cf) :
    Runs [0b10#2 ++ op.code ++ p.code] s
      (spent { s.afterRead p with
        a := BitVec.ofNat 8 (s.a.toNat + 512 - (s.value p).toNat - carryIn useCarry s.f)
        f := differenceF s.cfg.subHalfReading s.a.toNat (s.value p).toNat (carryIn useCarry s.f) } (aluCycles p)) ∧
    Runs [0b11#2 ++ op.code ++ 0b110#3, n] s
      (spent { s with
        a := BitVec.ofNat 8 (s.a.toNat + 512 - n.toNat - carryIn useCarry s.f)
        f := differenceF s.cfg.subHalfReading s.a.toNat n.toNat (carryIn useCarry s.f) } 8) := by
  simpa only [alu_eq_difference _ _ hop hsub, afterRead_a, afterRead_f, afterRead_cfg] using runs_alu s p n op

/-- CP in its operand forms (R212 to R214). -/
theorem runs_cp :
    Runs [0b10#2 ++ AluOp.cp.code ++ p.code] s
      (spent { s.afterRead p with
        f := differenceF s.cfg.subHalfReading s.a.toNat (s.value p).toNat 0 } (aluCycles p)) ∧
    Runs [0b11#2 ++ AluOp.cp.code ++ 0b110#3, n] s
      (spent { s with f := differenceF s.cfg.subHalfReading s.a.toNat n.toNat 0 } 8) := by
  simpa only [alu_cp, afterRead_a, afterRead_cfg] using runs_alu s p n .cp

/-- A logic operation `g` in its operand forms (R203 to R211). -/
theorem runs_logic {g : Byte → Byte → Byte} {h : Bool} (hop : op ≠ .cp)
    (hres : ∀ reading a b cf, aluResult reading op a b cf = logic8 (g a b) h) :
    Runs [0b10#2 ++ op.code ++ p.code] s
      (spent { s.afterRead p with
        a := g s.a (s.value p), f := fByte (decide (g s.a (s.value p) = 0)) false h false } (aluCycles p)) ∧
    Runs [0b11#2 ++ op.code ++ 0b110#3, n] s
      (spent { s with a := g s.a n, f := fByte (decide (g s.a n = 0)) false h false } 8) := by
  simpa only [alu_eq_logic _ _ hop (hres _ _ _ _), afterRead_a] using runs_alu s p n op

end

/-- Settles O22: ADD adds without a carry in, ADC with the flag. -/
theorem addAndAdcRun : Obligations.AddAndAdcRun := by
  unfold Obligations.AddAndAdcRun
  intro s p n withCarry
  cases withCarry with
  | false => exact runs_sum (op := .add) s p n (by decide) fun _ _ _ _ => rfl
  | true => exact runs_sum (op := .adc) s p n (by decide) fun _ _ _ _ => rfl

/-- Settles O23: SUB subtracts without a borrow in, SBC with the flag, and CP is SUB without its result. -/
theorem subSbcAndCpRun : Obligations.SubSbcAndCpRun := by
  unfold Obligations.SubSbcAndCpRun
  intro s p n withCarry
  obtain ⟨hplace, himm⟩ := runs_cp s p n
  cases withCarry with
  | false =>
    obtain ⟨hsubPlace, hsubImm⟩ := runs_difference (op := .sub) s p n (by decide) fun _ _ _ _ => rfl
    exact ⟨hsubPlace, hsubImm, hplace, himm⟩
  | true =>
    obtain ⟨hsbcPlace, hsbcImm⟩ := runs_difference (op := .sbc) s p n (by decide) fun _ _ _ _ => rfl
    exact ⟨hsbcPlace, hsbcImm, hplace, himm⟩

/-- Settles O24: the three operations differ in the bitwise function, and AND alone sets H. -/
theorem logicRun : Obligations.LogicRun := by
  unfold Obligations.LogicRun
  intro s p n
  obtain ⟨handPlace, handImm⟩ := runs_logic (op := .and) (g := (· &&& ·)) s p n (by decide) fun _ _ _ _ => rfl
  obtain ⟨hxorPlace, hxorImm⟩ := runs_logic (op := .xor) (g := (· ^^^ ·)) s p n (by decide) fun _ _ _ _ => rfl
  obtain ⟨horPlace, horImm⟩ := runs_logic (op := .or) (g := (· ||| ·)) s p n (by decide) fun _ _ _ _ => rfl
  exact ⟨handPlace, handImm, hxorPlace, hxorImm, horPlace, horImm⟩

/-- Settles O25: each form is one shape, whatever place its code names. -/
theorem incAndDecRun : Obligations.IncAndDecRun := by
  unfold Obligations.IncAndDecRun
  intro s p
  rw [← modify8_inc8, ← modify8_dec8]
  exact ⟨runs_of_shape (.incPlace p (incCycles p)) (decode_incPlace _ p),
    runs_of_shape (.decPlace p (incCycles p)) (decode_decPlace _ p)⟩

/-- Settles O27: each writes the flags read from F, with its own constants. -/
theorem cplScfCcfRun : Obligations.CplScfCcfRun := by
  unfold Obligations.CplScfCcfRun
  intro s
  have hscf := setFlags_eq s { z := zOf s.f, n := false, h := false, c := true }
  have hccf := setFlags_eq s { z := zOf s.f, n := false, h := false, c := !cOf s.f }
  rw [← complementA_eq, ← hscf, ← hccf]
  exact ⟨runs_of_shape .cpl ⟨.cpl, rfl, rfl⟩, runs_of_shape .scf ⟨.scf, rfl, rfl⟩,
    runs_of_shape .ccf ⟨.ccf, rfl, rfl⟩⟩

end Sys2Proof.Laws

/-! ## The 16-bit arithmetic (R108, R109, R230 to R233)

Each form is one shape. What ADD HL,rr and ADD SP,e compute on bit vectors is here the sums and the flags of numbers.
INC rr and DEC rr write no flag. -/

namespace Sys2Proof.Machine

open Sys2Proof.Claims

/-- ADD HL,rr puts the same sum in HL under both FLAG16_MODE values (R230). -/
theorem addHl_res (mode : Config.Flag16Mode) (a b : Word) (fl : Flags) :
    (addHl mode a b fl).res = BitVec.ofNat 16 (a.toNat + b.toNat) := by
  cases mode with
  | source => exact add16_res a b fl.c
  | lr35902 => rfl

/-- ADD HL,rr puts the sum in HL and, under `source`, all the flags of the sum in F (R230). -/
theorem addToHl_of_source {s : State} (hmode : s.cfg.flag16Mode = .source) (v : Word) :
    s.addToHl v =
      { s with f := sumF16 s.hl.toNat v.toNat }.setHl (BitVec.ofNat 16 (s.hl.toNat + v.toNat)) := by
  rw [State.addToHl, addHl_res, hmode, ← add16_flags _ _ s.flags.c]
  rfl

/-- ADD HL,rr puts the sum in HL and, under `lr35902`, keeps Z and sets H by the carry out of bit 11 (R108, R230). -/
theorem addToHl_of_lr35902 {s : State} (hmode : s.cfg.flag16Mode = .lr35902) (v : Word) :
    s.addToHl v =
      { s with
        f := fByte (zOf s.f) false (decide (s.hl.toNat % 4096 + v.toNat % 4096 > 4095))
          (decide (s.hl.toNat + v.toNat > 65535)) }.setHl (BitVec.ofNat 16 (s.hl.toNat + v.toNat)) := by
  rw [State.addToHl, addHl_res, hmode, setFlags_eq]
  rfl

/-- ADD SP,e puts the sum in SP and its flags in F (R233). -/
theorem addSpRel_eq (s : State) (e : Byte) :
    s.addSpRel e =
      { s with
        f := spRelF s.cfg.flag16Mode s.sp.toNat e.toNat (displacement e)
        sp := BitVec.ofNat 16 (s.sp.toNat + displacement e) } := by
  rw [State.addSpRel, spPlusE_res, ← spPlusE_flags _ _ _ s.flags]
  rfl

end Sys2Proof.Machine

namespace Sys2Proof.Laws

open Sys2Proof.Machine Sys2Proof.Claims

/-! ### The forms with a pair code (R86, R230 to R232) -/

section
variable (sl : Config.StopLength) (p : Pair)

theorem decode_addHl : ∃ i, decode sl [0b00#2 ++ p.code ++ 0b1001#4] = .ok (i, []) ∧ shapeOf i = .addHl p := by
  cases p <;> exact ⟨_, rfl, rfl⟩

theorem decode_incPair : ∃ i, decode sl [0b00#2 ++ p.code ++ 0b0011#4] = .ok (i, []) ∧ shapeOf i = .incPair p := by
  cases p <;> exact ⟨_, rfl, rfl⟩

theorem decode_decPair : ∃ i, decode sl [0b00#2 ++ p.code ++ 0b1011#4] = .ok (i, []) ∧ shapeOf i = .decPair p := by
  cases p <;> exact ⟨_, rfl, rfl⟩

end

/-- ADD HL,rr adds the pair to HL (R230). -/
theorem runs_addHl (s : State) (p : Pair) :
    Runs [0b00#2 ++ p.code ++ 0b1001#4] s (spent (s.addToHl (s.pair p)) 8) :=
  runs_of_shape (.addHl p) (decode_addHl _ p)

/-- Settles O28: FLAG16_MODE chooses the flags of ADD HL,rr and ADD SP,e alone, and DEC rr adds 65535 modulo 2^16. -/
theorem sixteenBitArithmeticRun : Obligations.SixteenBitArithmeticRun := by
  unfold Obligations.SixteenBitArithmeticRun
  intro s p e
  have hinc : s.pair p + 1 = BitVec.ofNat 16 ((s.pair p).toNat + 1) := by bv_omega
  have hdec : s.pair p - 1 = BitVec.ofNat 16 ((s.pair p).toNat + 65535) := by bv_omega
  rw [← hinc, ← hdec, ← addSpRel_eq]
  refine ⟨fun hsource => ?_, fun hlr => ?_, runs_of_shape (.incPair p) (decode_incPair _ p),
    runs_of_shape (.decPair p) (decode_decPair _ p), runs_of_shape (.addSpRel e) ⟨.addSpRel e, rfl, rfl⟩⟩
  · exact addToHl_of_source hsource (s.pair p) ▸ runs_addHl s p
  · exact addToHl_of_lr35902 hlr (s.pair p) ▸ runs_addHl s p

end Sys2Proof.Laws

/-! ## The rotates, shifts and bit instructions (R81, R91, R96, R240 to R266)

`extended_fields` reads the three fields of a second byte back, so that `State.extended` is one operation on one place
for each value of its first field. `rotValue_rlc` to `rotValue_srl` say what each rotate or shift gives as a rotation of
the byte or as arithmetic of its number. -/

namespace Sys2Proof.Machine

open Sys2Proof.Claims

/-! ### What the rotates and shifts give (R245 to R260) -/

/-- A left shift with a bit moved in at the bottom is doubling with that bit added. -/
theorem shiftLeft_or_ofBool (v : Byte) (b : Bool) :
    v <<< 1 ||| (BitVec.ofBool b).setWidth 8 = BitVec.ofNat 8 (2 * v.toNat + bitNat b) := by
  revert v b
  decide

/-- A right shift with a bit moved in at the top is halving with that bit as bit 8. -/
theorem ushiftRight_or_ofBool (v : Byte) (b : Bool) :
    v >>> 1 ||| (BitVec.ofBool b).setWidth 8 <<< 7 = BitVec.ofNat 8 ((v.toNat + 256 * bitNat b) / 2) := by
  revert v b
  decide

section
variable (v : Byte) (cf : Bool)

theorem rotValue_rlc : rotValue .rlc v cf = (v.rotateLeft 1, v.getLsbD 7) := by
  have htop : (BitVec.ofBool (v.getLsbD 7)).setWidth 8 = v >>> 7 := by
    revert v
    decide
  rw [rotValue, htop]
  rfl

theorem rotValue_rrc : rotValue .rrc v cf = (v.rotateRight 1, v.getLsbD 0) := by
  have hlow : (BitVec.ofBool (v.getLsbD 0)).setWidth 8 <<< 7 = v <<< 7 := by
    revert v
    decide
  rw [rotValue, hlow]
  rfl

theorem rotValue_rl : rotValue .rl v cf = (BitVec.ofNat 8 (2 * v.toNat + bitNat cf), v.getLsbD 7) := by
  rw [rotValue, shiftLeft_or_ofBool]

theorem rotValue_rr : rotValue .rr v cf = (BitVec.ofNat 8 ((v.toNat + 256 * bitNat cf) / 2), v.getLsbD 0) := by
  rw [rotValue, ushiftRight_or_ofBool]

theorem rotValue_sla : rotValue .sla v cf = (BitVec.ofNat 8 (2 * v.toNat), v.getLsbD 7) := by
  have hshift : v <<< 1 = BitVec.ofNat 8 (2 * v.toNat) := by bv_omega
  rw [rotValue, hshift]

theorem rotValue_sra : rotValue .sra v cf = (v.sshiftRight 1, v.getLsbD 0) := by
  have hsign : v >>> 1 ||| (v &&& 0x80) = v.sshiftRight 1 := by
    revert v
    decide
  rw [rotValue, hsign]

theorem rotValue_swap : rotValue .swap v cf = (v.rotateLeft 4, false) := rfl

theorem rotValue_srl : rotValue .srl v cf = (BitVec.ofNat 8 (v.toNat / 2), v.getLsbD 0) := by
  have hshift : v >>> 1 = BitVec.ofNat 8 (v.toNat / 2) := by bv_omega
  rw [rotValue, hshift]

end

/-! ### The operations on A and on a place -/

/-- An accumulator rotate leaves its result in A, and clears all of F but the bit that leaves (R240 to R243). -/
theorem onA_rotA {s : State} {op : RotOp} {res : Byte} {c : Bool} (h : rotValue op s.a (cOf s.f) = (res, c)) :
    s.onA (rotA op) = { s with a := res, f := fByte false false false c } := by
  have hrot : rotA op s.a s.flags = { res, flags := { z := false, n := false, h := false, c } } := by
    rw [rotA, show s.flags.c = cOf s.f from rfl, h]
  rw [State.onA, hrot, setFlags_eq]

/-- A rotate or shift of a place writes F, then the place (R245 to R260). -/
theorem modify8_rot8 {s : State} {op : RotOp} {p : Place} {res : Byte} {c : Bool}
    (h : rotValue op (s.value p) (cOf s.f) = (res, c)) :
    (s.modify8 p (rot8 op)).cycles (cbCycles p) = rotated s p res c := by
  have hrot : rot8 op (s.value p) s.flags =
      { res, flags := { z := decide (res = 0), n := false, h := false, c } } := by
    rw [rot8, show s.flags.c = cOf s.f from rfl, h]
  rw [State.modify8, hrot, setFlags_eq]
  rfl

/-! ### The fields of a second byte (R81, R85, R90, R96, R244) -/

/-- The fields of a byte are the bit vectors it is joined from (R81). -/
theorem extended_fields (x : BitVec 2) (y z : BitVec 3) :
    (x ++ y ++ z).toNat / 64 = x.toNat ∧ (x ++ y ++ z).toNat / 8 % 8 = y.toNat ∧ (x ++ y ++ z).toNat % 8 = z.toNat := by
  revert x y z
  decide

theorem placeOfCode_code (p : Place) : placeOfCode p.code.toNat = p := by
  cases p with
  | reg r => cases r <;> rfl
  | atHl => rfl

theorem rotOfCode_code (op : RotOp) : rotOfCode op.code.toNat = op := by
  cases op <;> rfl

theorem extendedCycles_of_ne_one {x : Nat} (hx : x ≠ 1) (p : Place) : extendedCycles x p = cbCycles p := by
  cases p with
  | reg r => rfl
  | atHl => exact if_neg hx

theorem extendedCycles_one (p : Place) : extendedCycles 1 p = bitCycles p := by
  cases p <;> rfl

section
variable (s : State) (op : RotOp) (b : BitVec 3) (p : Place)

theorem extended_rot :
    s.extended (0b00#2 ++ op.code ++ p.code) = (s.modify8 p (rot8 op)).cycles (cbCycles p) := by
  obtain ⟨hx, hy, hz⟩ := extended_fields 0b00#2 op.code p.code
  rw [State.extended, hx, hy, hz, rotOfCode_code, placeOfCode_code, extendedCycles_of_ne_one (by decide)]
  rfl

theorem extended_bit :
    s.extended (0b01#2 ++ b ++ p.code) = (s.bitTest (Fin.ofNat 8 b.toNat) p).cycles (bitCycles p) := by
  obtain ⟨hx, hy, hz⟩ := extended_fields 0b01#2 b p.code
  rw [State.extended, hx, hy, hz, placeOfCode_code, ← extendedCycles_one]
  rfl

theorem extended_res :
    s.extended (0b10#2 ++ b ++ p.code) = (s.modifyQuiet p (resBit (Fin.ofNat 8 b.toNat))).cycles (cbCycles p) := by
  obtain ⟨hx, hy, hz⟩ := extended_fields 0b10#2 b p.code
  rw [State.extended, hx, hy, hz, placeOfCode_code, extendedCycles_of_ne_one (by decide)]
  rfl

theorem extended_set :
    s.extended (0b11#2 ++ b ++ p.code) = (s.modifyQuiet p (setBit (Fin.ofNat 8 b.toNat))).cycles (cbCycles p) := by
  obtain ⟨hx, hy, hz⟩ := extended_fields 0b11#2 b p.code
  rw [State.extended, hx, hy, hz, placeOfCode_code, extendedCycles_of_ne_one (by decide)]
  rfl

end

theorem finOfNat_toNat_val (b : BitVec 3) : (Fin.ofNat 8 b.toNat).val = b.toNat := Nat.mod_eq_of_lt b.isLt

end Sys2Proof.Machine

namespace Sys2Proof.Laws

open Sys2Proof.Machine Sys2Proof.Claims

/-- The prefix and a second byte run to what the fields of the second byte say (R91, R96). -/
theorem runs_extended (op2 : Byte) (s : State) : Runs [0xCB, op2] s (s.extended op2) :=
  ⟨extendedRow op2, rfl, exec_extendedRow op2 s⟩

/-- An accumulator rotate runs to its result and the bit that leaves (R240 to R243). -/
theorem runs_rotA {bytes : List Byte} {s : State} {op : RotOp} {res : Byte} {c : Bool}
    (hbytes : ∃ i, decode s.cfg.stopLength bytes = .ok (i, []) ∧ shapeOf i = .rotA op)
    (h : rotValue op s.a (cOf s.f) = (res, c)) :
    Runs bytes s (spent { s with a := res, f := fByte false false false c } 4) :=
  onA_rotA h ▸ runs_of_shape (.rotA op) hbytes

/-- An extended rotate or shift runs to its result and the bit that leaves, on any place (R245 to R260). -/
theorem runs_rot {s : State} {op : RotOp} {p : Place} {res : Byte} {c : Bool}
    (h : rotValue op (s.value p) (cOf s.f) = (res, c)) :
    Runs [0xCB, 0b00#2 ++ op.code ++ p.code] s (rotated s p res c) := by
  rw [← modify8_rot8 h, ← extended_rot]
  exact runs_extended _ s

/-- Settles O29: each rotate gives what `rotValue` gives, with the carry of F as the bit moved in. -/
theorem accumulatorRotatesRun : Obligations.AccumulatorRotatesRun := by
  unfold Obligations.AccumulatorRotatesRun
  intro s
  rw [← bitNat_eq_carryIn]
  exact ⟨runs_rotA ⟨.rlca, rfl, rfl⟩ (rotValue_rlc _ _), runs_rotA ⟨.rrca, rfl, rfl⟩ (rotValue_rrc _ _),
    runs_rotA ⟨.rla, rfl, rfl⟩ (rotValue_rl _ _), runs_rotA ⟨.rra, rfl, rfl⟩ (rotValue_rr _ _)⟩

/-- Settles O30: as the accumulator rotates, on the operand's value. -/
theorem extendedRotatesRun : Obligations.ExtendedRotatesRun := by
  unfold Obligations.ExtendedRotatesRun
  intro s p
  rw [← bitNat_eq_carryIn]
  exact ⟨runs_rot (op := .rlc) (rotValue_rlc _ _), runs_rot (op := .rrc) (rotValue_rrc _ _),
    runs_rot (op := .rl) (rotValue_rl _ _), runs_rot (op := .rr) (rotValue_rr _ _)⟩

/-- Settles O31: no shift reads the carry, and SWAP is a rotation by four. -/
theorem extendedShiftsRun : Obligations.ExtendedShiftsRun := by
  unfold Obligations.ExtendedShiftsRun
  intro s p
  exact ⟨runs_rot (op := .sla) (rotValue_sla _ _), runs_rot (op := .sra) (rotValue_sra _ _),
    runs_rot (op := .swap) (rotValue_swap _ _), runs_rot (op := .srl) (rotValue_srl _ _)⟩

/-- Settles O32: the second field is the bit's number, whatever place the third one names. -/
theorem bitInstructionsRun : Obligations.BitInstructionsRun := by
  unfold Obligations.BitInstructionsRun
  intro s p b
  have hbit := runs_extended (0b01#2 ++ b ++ p.code) s
  have hres := runs_extended (0b10#2 ++ b ++ p.code) s
  have hset := runs_extended (0b11#2 ++ b ++ p.code) s
  rw [extended_bit, State.bitTest, setFlags_eq, bitFlags, finOfNat_toNat_val] at hbit
  rw [extended_res, State.modifyQuiet, resBit, finOfNat_toNat_val] at hres
  rw [extended_set, State.modifyQuiet, setBit, finOfNat_toNat_val] at hset
  exact ⟨hbit, hres, hset⟩

end Sys2Proof.Laws

/-! ## Control transfer (R88, R270 to R281)

Every form is one shape, and a conditional one chooses by the condition of R88 on F. -/

namespace Sys2Proof.Machine

open Sys2Proof.Claims

theorem cond_eq_condHolds (s : State) (cc : Cond) : s.cond cc = condHolds cc s.f := by
  cases cc <;> rfl

/-- A conditional transfer takes its effect where the condition holds on F, and else only counts (R270). -/
theorem ifCond_eq (s : State) (cc : Cond) (taken : State → State) (m n : Nat) :
    s.ifCond cc taken m n = if condHolds cc s.f then spent (taken s) m else spent s n := by
  rw [State.ifCond, cond_eq_condHolds]
  rfl

/-- A relative jump adds the displacement to PC (R83, R274). -/
theorem jumpRel_eq (s : State) (e : Byte) :
    s.jumpRel e = { s with pc := BitVec.ofNat 16 (s.pc.toNat + displacement e) } := by
  rw [← toNat_sext16]
  rfl

end Sys2Proof.Machine

namespace Sys2Proof.Laws

open Sys2Proof.Machine Sys2Proof.Claims

/-! ### The forms with a condition code or a restart number (R88, R272, R275, R277, R279, R281) -/

section
variable (sl : Config.StopLength) (cc : Cond) (lo hi e : Byte) (y : BitVec 3)

theorem decode_jumpIf :
    ∃ i, decode sl [0b110#3 ++ cc.code ++ 0b010#3, lo, hi] = .ok (i, []) ∧ shapeOf i = .jumpIf cc (hi ++ lo) := by
  cases cc <;> exact ⟨_, rfl, rfl⟩

theorem decode_jumpRelIf :
    ∃ i, decode sl [0b001#3 ++ cc.code ++ 0b000#3, e] = .ok (i, []) ∧ shapeOf i = .jumpRelIf cc e := by
  cases cc <;> exact ⟨_, rfl, rfl⟩

theorem decode_callIf :
    ∃ i, decode sl [0b110#3 ++ cc.code ++ 0b100#3, lo, hi] = .ok (i, []) ∧ shapeOf i = .callIf cc (hi ++ lo) := by
  cases cc <;> exact ⟨_, rfl, rfl⟩

theorem decode_retIf :
    ∃ i, decode sl [0b110#3 ++ cc.code ++ 0b000#3] = .ok (i, []) ∧ shapeOf i = .retIf cc := by
  cases cc <;> exact ⟨_, rfl, rfl⟩

theorem decode_rst :
    ∃ i, decode sl [0b11#2 ++ y ++ 0b111#3] = .ok (i, []) ∧ shapeOf i = .rst (BitVec.ofNat 16 (8 * y.toNat)) := by
  obtain ⟨n, hn, rfl⟩ : ∃ n < 8, y = BitVec.ofNat 3 n := ⟨y.toNat, y.isLt, by simp⟩
  interval_cases n
  all_goals exact ⟨_, rfl, rfl⟩

end

/-- Bytes of a conditional shape run to its effect where the condition holds on F, else to the count alone (R270). -/
theorem runs_ifCond {bytes : List Byte} {s : State} {sh : Shape} {cc : Cond} {taken : State → State} {m n : Nat}
    (h : ∃ i, decode s.cfg.stopLength bytes = .ok (i, []) ∧ shapeOf i = sh)
    (hrun : sh.run s = s.ifCond cc taken m n) :
    Runs bytes s (if condHolds cc s.f then spent (taken s) m else spent s n) := by
  rw [← ifCond_eq, ← hrun]
  exact runs_of_shape sh h

/-- Settles O33: each form is one shape, and a displacement is added to the PC after the instruction. -/
theorem jumpsRun : Obligations.JumpsRun := by
  unfold Obligations.JumpsRun
  intro s cc lo hi e
  rw [← jumpRel_eq]
  exact ⟨runs_of_shape (.jump (hi ++ lo)) ⟨.jpNn (hi ++ lo), rfl, rfl⟩,
    runs_ifCond (taken := (·.setPc (hi ++ lo))) (decode_jumpIf _ cc lo hi) rfl,
    runs_of_shape .jumpHl ⟨.jpHl, rfl, rfl⟩,
    runs_of_shape (.jumpRel e) ⟨.jrRel e, rfl, rfl⟩,
    runs_ifCond (taken := (·.jumpRel e)) (decode_jumpRelIf _ cc e) rfl⟩

/-- Settles O34: each form is one shape, a push and a jump or a pop and a jump. -/
theorem callsAndReturnsRun : Obligations.CallsAndReturnsRun := by
  unfold Obligations.CallsAndReturnsRun
  intro s cc lo hi y
  exact ⟨runs_of_shape (.call (hi ++ lo)) ⟨.callNn (hi ++ lo), rfl, rfl⟩,
    runs_ifCond (taken := (·.call (hi ++ lo))) (decode_callIf _ cc lo hi) rfl,
    runs_of_shape .ret ⟨.ret, rfl, rfl⟩,
    runs_ifCond (taken := State.ret) (decode_retIf _ cc) rfl,
    runs_of_shape .reti ⟨.reti, rfl, rfl⟩,
    runs_of_shape (.rst (BitVec.ofNat 16 (8 * y.toNat))) (decode_rst _ y)⟩

end Sys2Proof.Laws

/-! ## Ended runs (R300, R307, R319, R320, R347) -/

namespace Sys2Proof.Machine

/-- A state that a round leaves as it is, any number of rounds leave as it is. -/
theorem after_of_step_self {s : State} (h : step s = .next s) (n : Nat) : State.after n s = some s := by
  induction n with
  | zero => rfl
  | succ n ih => simp only [State.after, h, ih]

/-- A run that comes to a decode fault has no observation (R347 c). -/
theorem runObservation_of_failed {s t : State} {n : Nat} (h : State.after n s = some t)
    (ht : t.mode.runEnd = .failed) : State.runObservation n s = none := by
  simp only [State.runObservation, h, ht]

/-- A run that comes to no decode fault ends with what Observe() shows (R347). -/
theorem runObservation_of_not_failed {s t : State} {n : Nat} (h : State.after n s = some t)
    (ht : t.mode.runEnd ≠ .failed) : State.runObservation n s = some t.observe := by
  simp only [State.runObservation, h]

/-- Settles O9: a step in these modes is the identity, and only Fault is the failed end. -/
theorem endedRunsStay : Obligations.EndedRunsStay := by
  unfold Obligations.EndedRunsStay
  intro s n
  have hended (ha : s.mode ≠ .active) (hh : s.mode ≠ .halted) : step s = .next s ∧ State.after n s = some s :=
    ⟨step_of_ended ha hh, after_of_step_self (step_of_ended ha hh) n⟩
  refine ⟨fun hm => ?_, fun hm => ?_, fun op pc hm => ?_⟩
  all_goals obtain ⟨hstep, hafter⟩ := hended (by simp [hm]) (by simp [hm])
  · exact ⟨hstep, hafter, runObservation_of_not_failed hafter (by simp [hm, Mode.runEnd])⟩
  · exact ⟨hstep, hafter, runObservation_of_not_failed hafter (by simp [hm, Mode.runEnd])⟩
  · exact ⟨hstep, hafter, runObservation_of_failed hafter (by rw [hm]; rfl)⟩

end Sys2Proof.Machine

/-! ## Interrupts: the arbiter, the dispatch, the EI commit and the halt wake (R302 to R313, R320)

`poll_eq_or_dispatch` says once what the rest of a round changes: without a dispatch IME, the pending EI and the run
state at most. -/

namespace Sys2Proof.Machine

open Sys2Proof.Claims

/-! ### The arbiter (R303, R304) -/

theorem memRead_ifAddr (s : State) : s.memRead ifAddr = Memory.read s.mem ifAddr.toNat := memRead_of_high (by decide)

theorem pendingEnabled_eq (s : State) :
    s.pendingEnabled = Memory.read s.mem 0xFFFF &&& Memory.read s.mem 0xFF0F &&& 0x1F := by
  rw [State.pendingEnabled, memRead_ieAddr, memRead_ifAddr]
  rfl

/-- A source selected is a request pending and enabled. -/
theorem pendingEnabled_ne_zero {s : State} {k : IrqSource} (h : lowestSource s.pendingEnabled = some k) :
    s.pendingEnabled ≠ 0 := by
  intro h0
  rw [h0] at h
  exact absurd h (by decide +revert)

/-- The lowest set bit of the five is the one whose source is selected (R303, R304). -/
theorem exists_source_of_lowest {p : Byte} {k : Fin 5} (hset : p.getLsbD k.val = true)
    (hlow : ∀ j < k.val, p.getLsbD j = false) : ∃ src, lowestSource p = some src ∧ src.bit = k.val := by
  cases hp : lowestSource p with
  | none => exact absurd hset (by simp [lowestSource_eq_none hp k.isLt])
  | some src =>
    obtain ⟨hset', hlow'⟩ := lowestSource_eq_some hp
    have hge : ¬ src.bit < k.val := fun h => by simp [hlow _ h] at hset'
    have hle : ¬ k.val < src.bit := fun h => by simp [hlow' _ h] at hset
    exact ⟨src, rfl, by omega⟩

theorem arbiter_of_ime_clear {s : State} (h : s.ime = false) : s.arbiter = (none, s) := by
  simp [State.arbiter, h]

theorem arbiter_of_none_pending {s : State} (h : s.pendingEnabled = 0) : s.arbiter = (none, s) := by
  rcases arbiter_cases s with hs | ⟨k, -, hk, -⟩
  · exact hs
  · exact absurd h (pendingEnabled_ne_zero hk)

theorem arbiter_of_source {s : State} {k : IrqSource} (hi : s.ime = true)
    (hk : lowestSource s.pendingEnabled = some k) :
    s.arbiter = (some k.vector, { s.memWrite ifAddr (s.memRead ifAddr &&& ~~~k.mask) with ime := false }) := by
  simp [State.arbiter, hi, hk]

/-- IF lies above the overlay, so a write to it reaches the array (R52). -/
theorem memWrite_ifAddr (s : State) (v : Byte) : s.memWrite ifAddr v = { s with mem := Memory.write s.mem 0xFF0F v } :=
  memWrite_of_high (by decide) v

/-- Settles O46: the source of the lowest set bit is the one the arbiter serves. -/
theorem arbiterServesTheLowestBit : Obligations.ArbiterServesTheLowestBit := by
  unfold Obligations.ArbiterServesTheLowestBit
  intro s
  rw [← pendingEnabled_eq]
  refine ⟨arbiter_of_ime_clear, arbiter_of_none_pending, fun k hi hset hlow => ?_⟩
  obtain ⟨src, hsrc, hbit⟩ := exists_source_of_lowest hset hlow
  rw [arbiter_of_source hi hsrc, memWrite_ifAddr, memRead_ifAddr, IrqSource.vector, IrqSource.mask, hbit]
  rfl

/-! ### The dispatch and the posted requests (R306, R308) -/

/-- Settles O47: the push is two writes below SP, and the rest are fields of their own. -/
theorem dispatchPushesPcAndJumps : Obligations.DispatchPushesPcAndJumps := by
  unfold Obligations.DispatchPushesPcAndJumps
  intro s v
  rw [State.dispatch, pushAtomic_eq_writes, hiByte_eq, loByte_eq]
  simp [State.setPc, State.setSp, State.moreCycles]

/-- A posted request is a write of IF with the bit of its source set (R306). -/
theorem postInterrupt_eq (s : State) (k : IrqSource) :
    s.postInterrupt k = { s with mem := Memory.write s.mem 0xFF0F (Memory.read s.mem 0xFF0F ||| k.mask) } := by
  rw [State.postInterrupt, memWrite_ifAddr, memRead_ifAddr]
  rfl

/-- Settles O48: the masks of the five sources (R302). -/
theorem postedRequestSetsItsBit : Obligations.PostedRequestSetsItsBit := by
  unfold Obligations.PostedRequestSetsItsBit
  intro s
  exact ⟨postInterrupt_eq s .vblank, postInterrupt_eq s .lcdStat, postInterrupt_eq s .timer,
    postInterrupt_eq s .serial, postInterrupt_eq s .joypad⟩

/-! ### The EI commit and the halt wake (R312, R313, R320) -/

theorem eiCommit_of_eiDelay_zero {s : State} (h : s.cfg.eiDelay = .zero) : s.eiCommit = s := by
  simp [State.eiCommit, h]

/-- Settles O50, one lemma for each stage of a pending EI. -/
theorem eiCommitMovesOneStage : Obligations.EiCommitMovesOneStage := by
  unfold Obligations.EiCommitMovesOneStage
  intro s
  exact ⟨eiCommit_of_eiDelay_zero, eiCommit_of_ready, eiCommit_of_armed, fun _ => eiCommit_of_none⟩

/-- No later round can wake the core: nothing is enabled, or IME is clear and such a request does not wake (R320). -/
theorem wakeImpossible_iff {s : State} :
    s.wakeImpossible = true ↔
      Memory.read s.mem 0xFFFF &&& 0x1F = 0 ∨ (s.ime = false ∧ s.cfg.haltWakeIme0 = .stay) := by
  simp only [State.wakeImpossible, Bool.or_eq_true, Bool.and_eq_true, Bool.not_eq_true', decide_eq_true_eq,
    memRead_ieAddr]
  rfl

theorem haltWake_of_woken {s : State} (hp : s.pendingEnabled ≠ 0) (hw : s.cfg.haltWakeIme0 = .wake) :
    s.haltWake = { s with mode := .active } :=
  if_pos ⟨hp, hw⟩

/-- A core that no request wakes exits where that can be told, and else stays (R312, R320). -/
theorem haltWake_of_not_woken {s : State} (h : s.pendingEnabled = 0 ∨ s.cfg.haltWakeIme0 = .stay) :
    s.haltWake = if s.cfg.exitOnIdleHalt = true ∧ s.wakeImpossible = true then { s with mode := .exited } else s := by
  refine if_neg ?_
  rintro ⟨hp, hw⟩
  rcases h with h | h
  · exact hp h
  · exact absurd (hw.symm.trans h) (by decide)

/-- Settles O52, with `wakeImpossible_iff` for the exit. -/
theorem haltWakeRule : Obligations.HaltWakeRule := by
  unfold Obligations.HaltWakeRule
  intro s
  refine ⟨haltWake_of_woken, fun hn he hw => ?_, fun hn hk => ?_⟩
  · rw [haltWake_of_not_woken hn, if_pos ⟨he, wakeImpossible_iff.mpr hw⟩]
  · rw [haltWake_of_not_woken hn, if_neg]
    rintro ⟨he, hw⟩
    rw [wakeImpossible_iff] at hw
    rcases hk with hk | ⟨hk, hi⟩
    · exact absurd (he.symm.trans hk) (by decide)
    · rcases hw with hw | ⟨hw, hs⟩
      · exact hk hw
      · simp [hw, hs] at hi

/-! ### The rest of a round (R305, R307, R310) -/

theorem haltWake_eq (s : State) : s.haltWake = { s with mode := s.haltWake.mode } := by
  rcases haltWake_cases s with h | ⟨-, -, h⟩ | ⟨-, -, h⟩ <;> rw [h]

theorem eiCommit_pendingEnabled (s : State) : s.eiCommit.pendingEnabled = s.pendingEnabled := by
  rw [eiCommit_eq]
  rfl

/-- IME is set after the EI commit where it was set, or a pending EI was ready (R313). -/
theorem eiCommit_ime_iff {s : State} :
    s.eiCommit.ime = true ↔ s.ime = true ∨ (s.cfg.eiDelay = .one ∧ s.eiPending = .ready) := by
  constructor
  · intro h
    rcases eiCommit_cases s with hs | ⟨hd, hp, -⟩ | ⟨-, -, hs⟩
    · exact .inl (by rwa [hs] at h)
    · exact .inr ⟨hd, hp⟩
    · exact .inl (by rwa [hs] at h)
  · rintro (hi | ⟨hd, hp⟩)
    · exact eiCommit_ime_of_ime hi
    · rw [eiCommit_of_ready hd hp]

/-- With IME set once the EI commit is done, the arbiter's vector is the one dispatched (R303, R307). -/
theorem poll_eq_dispatch {s : State} {k : IrqSource} (hi : s.eiCommit.ime = true)
    (hk : lowestSource s.pendingEnabled = some k) :
    s.eiCommit.arbiter.1 = some k.vector ∧ s.poll = s.eiCommit.arbiter.2.dispatch k.vector := by
  rw [← eiCommit_pendingEnabled] at hk
  rw [State.poll, arbiter_of_source hi hk]
  exact ⟨rfl, rfl⟩

/-- What a dispatch in the rest of a round changes: nothing that R303 or R308 does not name. -/
theorem poll_of_source {s : State} {k : IrqSource} (hi : s.eiCommit.ime = true)
    (hk : lowestSource s.pendingEnabled = some k) :
    ∃ m o, s.poll =
      { s with
        ime := false
        eiPending := s.eiCommit.eiPending
        sp := s.sp - 2
        pc := k.vector
        mode := .active
        mem := m
        boot := o
        stepCycles := s.stepCycles + s.cfg.intDispatchCycles
        totalCycles := s.totalCycles + s.cfg.intDispatchCycles } := by
  obtain ⟨-, hpoll⟩ := poll_eq_dispatch hi hk
  rw [← eiCommit_pendingEnabled] at hk
  obtain ⟨_, _, hwrite⟩ := memWrite_eq s.eiCommit ifAddr (s.eiCommit.memRead ifAddr &&& ~~~k.mask)
  obtain ⟨m, o, hdispatch⟩ := dispatch_eq s.eiCommit.arbiter.2 k.vector
  refine ⟨m, o, ?_⟩
  rw [hpoll, hdispatch, arbiter_of_source hi hk, hwrite, eiCommit_eq]

/-- The rest of a round dispatches one source, or changes IME, the pending EI and the run state at most (R307, R310). -/
theorem poll_eq_or_source (s : State) :
    (∃ m, s.poll = { s with ime := s.eiCommit.ime, eiPending := s.eiCommit.eiPending, mode := m }) ∨
    ∃ k, s.eiCommit.ime = true ∧ lowestSource s.pendingEnabled = some k := by
  rcases poll_cases s with ⟨k, hi, hk, -⟩ | ⟨-, hs⟩ | ⟨-, hs⟩
  · exact .inr ⟨k, hi, by rwa [← eiCommit_pendingEnabled]⟩
  · exact .inl ⟨s.eiCommit.haltWake.mode, by rw [hs, haltWake_eq, eiCommit_eq]⟩
  · exact .inl ⟨s.mode, by rw [hs, eiCommit_eq]⟩

/-- With nothing pending and enabled, or IME clear, the rest of a round dispatches nothing (R303, R305). -/
theorem poll_of_no_source {s : State} (h : s.pendingEnabled = 0 ∨ s.eiCommit.ime = false) :
    ∃ m, s.poll = { s with ime := s.eiCommit.ime, eiPending := s.eiCommit.eiPending, mode := m } := by
  rcases poll_eq_or_source s with hs | ⟨k, hi, hk⟩
  · exact hs
  · rcases h with h | h
    · exact absurd h (pendingEnabled_ne_zero hk)
    · exact absurd (h.symm.trans hi) (by decide)

theorem poll_reg (s : State) (r : Reg8) : s.poll.reg r = s.reg r := by
  rcases poll_eq_or_source s with ⟨m, h⟩ | ⟨k, hi, hk⟩
  · rw [h]
    cases r <;> rfl
  · obtain ⟨m, o, h⟩ := poll_of_source hi hk
    rw [h]
    cases r <;> rfl

theorem poll_f (s : State) : s.poll.f = s.f := by
  rcases poll_eq_or_source s with ⟨m, h⟩ | ⟨k, hi, hk⟩
  · rw [h]
  · obtain ⟨m, o, h⟩ := poll_of_source hi hk
    rw [h]

/-- The rest of a halted round makes the core active only for a request pending and enabled; else the core stays halted
or exits (R311, R312, R320). -/
theorem poll_mode_of_halted {s : State} (hm : s.mode = .halted) :
    (s.poll.mode = .active ∧ s.pendingEnabled ≠ 0) ∨ s.poll.mode = .halted ∨ s.poll.mode = .exited := by
  rcases poll_cases s with ⟨k, hi, hk, h⟩ | ⟨hm', h⟩ | ⟨hm', -⟩
  · rw [eiCommit_pendingEnabled] at hk
    exact .inl ⟨by rw [h]; rfl, pendingEnabled_ne_zero hk⟩
  · rw [h]
    rcases haltWake_cases s.eiCommit with hw | ⟨hp, -, hw⟩ | ⟨-, -, hw⟩
    · exact .inr (.inl (by rw [hw, hm']))
    · exact .inl ⟨by rw [hw], by rwa [← eiCommit_pendingEnabled]⟩
    · exact .inr (.inr (by rw [hw]))
  · exact absurd ((eiCommit_mode s).trans hm) hm'

theorem landEnv_reg (s : State) (r : Reg8) : s.landEnv.reg r = s.reg r := by
  obtain ⟨_, _, _, h⟩ := landEnv_eq s
  rw [h]
  cases r <;> rfl

/-- Settles O53: a halted step is the rest of a round from the state in which the environment's acts have landed. -/
theorem haltIsLeftOnlyByARequest : Obligations.HaltIsLeftOnlyByARequest := by
  unfold Obligations.HaltIsLeftOnlyByARequest
  intro s t hm ht
  rw [Laws.step_of_halted_eq_poll hm] at ht
  cases ht
  have hmode := poll_mode_of_halted (s := spent s.landEnv s.cfg.haltIdleCycles) ((landEnv_mode s).trans hm)
  refine ⟨fun ha => ?_, hmode.imp_left And.left, fun hp => ?_, fun r => ?_, ?_⟩
  · rcases hmode with ⟨-, hp⟩ | hh | he
    · exact hp
    · exact absurd (ha.symm.trans hh) (by decide)
    · exact absurd (ha.symm.trans he) (by decide)
  · obtain ⟨m, h⟩ := poll_of_no_source (s := spent s.landEnv s.cfg.haltIdleCycles) (.inl hp)
    rw [h]
    exact ⟨landEnv_pc s, landEnv_sp s, rfl⟩
  · exact (poll_reg _ r).trans (landEnv_reg s r)
  · exact (poll_f _).trans (landEnv_f s)

/-- Settles O54, by whether the arbiter has a source to serve once the EI commit is done. -/
theorem atMostOneDispatchPerRound : Obligations.AtMostOneDispatchPerRound := by
  unfold Obligations.AtMostOneDispatchPerRound
  intro s
  refine ⟨?_, fun hi he => ?_, fun hi hp => ?_, endRound_eq_poll⟩
  · rcases poll_eq_or_source s with ⟨m, h⟩ | ⟨k, hi, hk⟩
    · rw [h]
      exact .inl ⟨rfl, rfl, rfl, rfl, rfl⟩
    · obtain ⟨m, o, h⟩ := poll_of_source hi hk
      obtain ⟨hset, -⟩ := lowestSource_eq_some hk
      rw [h]
      have hready : s.ime = true ∨ s.eiPending = .ready := (eiCommit_ime_iff.mp hi).imp_right And.right
      exact .inr ⟨rfl, rfl, rfl, rfl, hready, ⟨k.bit, k.bit_lt⟩, rfl, hset⟩
  · have hcommit : s.eiCommit.ime = false := by
      rw [Bool.eq_false_iff, ne_eq, eiCommit_ime_iff]
      rintro (h | ⟨-, h⟩)
      · exact absurd (hi.symm.trans h) (by decide)
      · exact he h
    obtain ⟨m, h⟩ := poll_of_no_source (.inr hcommit)
    rw [h]
    exact ⟨rfl, rfl, rfl, rfl, hcommit⟩
  · have hcommit : s.eiCommit.ime = true := eiCommit_ime_iff.mpr hi
    obtain ⟨k, hk⟩ := exists_lowestSource hp
    exact ⟨poll_tookInterrupt hcommit hp, k.vector, poll_eq_dispatch hcommit hk⟩

end Sys2Proof.Machine

/-! ## Reset and launch (R340, R341, R343, R344) -/

namespace Sys2Proof.Machine

/-! ### The cartridge's copy (R344) -/

namespace Memory

theorem read_writeAll_of_lt {m : Memory} {base x : Nat} (vs : List Byte) (h : x < base) :
    read (writeAll m base vs) x = read m x := by
  induction vs generalizing m base with
  | nil => rfl
  | cons v vs ih => rw [writeAll, ih (by omega), read_write_ne (by omega)]

theorem read_writeAll_of_ge {m : Memory} {base x : Nat} {vs : List Byte} (h : base + vs.length ≤ x) :
    read (writeAll m base vs) x = read m x := by
  induction vs generalizing m base with
  | nil => rfl
  | cons v vs ih =>
    rw [List.length_cons] at h
    rw [writeAll, ih (by omega), read_write_ne (by omega)]

theorem read_writeAll_add {m : Memory} {base i : Nat} {vs : List Byte} (h : i < vs.length) :
    read (writeAll m base vs) (base + i) = vs[i] := by
  induction vs generalizing m base i with
  | nil => exact absurd h (Nat.not_lt_zero i)
  | cons v vs ih =>
    cases i with
    | zero => exact (read_writeAll_of_lt vs (Nat.lt_succ_self base)).trans (read_write_same m base v)
    | succ i =>
      have hbase : base + (i + 1) = base + 1 + i := by omega
      rw [writeAll, hbase, List.getElem_cons_succ]
      exact ih (Nat.lt_of_succ_lt_succ h)

end Memory

/-! ### The host's operations by phase (R343)

Where a launch has not failed, `simp` takes that hypothesis from the context to pass the first branch of `apply`. -/

theorem apply_of_failed {x : Session} (h : x.phase = .failed) (op : HostOp) :
    x.apply op = .refused .launchFailed := by
  simp only [Session.apply, h]

theorem apply_reset_of_running {x : Session} (h : x.phase = .running) :
    x.apply .reset = .refused .launchAlreadyRunning := by
  simp only [Session.apply, h]

theorem apply_reset {x : Session} (h : x.phase = .fresh ∨ x.phase = .loaded) :
    x.apply .reset = .next (Session.start x.launch) := by
  rcases h with h | h <;> simp only [Session.apply, h]

theorem apply_loadCartridge_of_running {x : Session} (h : x.phase = .running) (bytes : List Byte) :
    x.apply (.loadCartridge bytes) = .refused .launchAlreadyRunning := by
  simp only [Session.apply, h]

theorem apply_loadCartridge_of_loaded {x : Session} (h : x.phase = .loaded) (bytes : List Byte) :
    x.apply (.loadCartridge bytes) = .refused .secondCartridge := by
  simp only [Session.apply, h]

theorem apply_loadCartridge_of_le {x : Session} {bytes : List Byte} (h : x.phase = .fresh)
    (hle : bytes.length ≤ maxCartridge) :
    x.apply (.loadCartridge bytes) = .next { x with phase := .loaded, state := x.state.loadImage bytes } := by
  simp only [Session.apply, h, if_neg (Nat.not_lt.mpr hle)]

theorem apply_loadCartridge_of_gt {x : Session} {bytes : List Byte} (h : x.phase = .fresh)
    (hgt : maxCartridge < bytes.length) : x.apply (.loadCartridge bytes) = .refused .cartridgeTooLarge := by
  simp only [Session.apply, h, if_pos hgt]

/-- A round of the launch is one step of the machine (R343). -/
theorem apply_step {x : Session} {t : State} (h : x.phase ≠ .failed) (ht : step x.state = .next t) :
    x.apply .step = .next (x.proceed t) := by
  simp only [Session.apply, ht]

theorem apply_envWrite {x : Session} (h : x.phase ≠ .failed) (a : Word) (v : Byte) :
    x.apply (.envWrite a v) = .next (x.proceed (x.state.envWrite a v)) := by
  simp only [Session.apply]

theorem apply_postInterrupt {x : Session} (h : x.phase ≠ .failed) (k : IrqSource) :
    x.apply (.postInterrupt k) = .next (x.proceed (x.state.postInterrupt k)) := by
  simp only [Session.apply]

/-- A refusal, but that of a cartridge too large, leaves the launch as it was. -/
theorem after_of_refused {x : Session} {op : HostOp} {r : Refusal} (h : x.apply op = .refused r)
    (hr : r ≠ .cartridgeTooLarge) : x.after op = x := by
  simp only [Session.after, h]

/-- A cartridge too large ends the launch and leaves the machine as it was (R344). -/
theorem after_of_cartridgeTooLarge {x : Session} {op : HostOp} (h : x.apply op = .refused .cartridgeTooLarge) :
    x.after op = { x with phase := .failed } := by
  simp only [Session.after, h]

/-- A step of the machine always answers a next state: no instruction faults the host or is refused. -/
theorem exists_step (s : State) : ∃ t, step s = .next t := by
  by_cases ha : s.mode = .active
  · exact ⟨_, step_of_active ha⟩
  by_cases hh : s.mode = .halted
  · exact ⟨_, step_of_halted hh⟩
  · exact ⟨s, step_of_ended ha hh⟩

/-- Settles O44: the copy is `Memory.writeAll` from address 0, and the phase after a refused load is `failed`. -/
theorem cartridgeIsCopiedOrRefused : Obligations.CartridgeIsCopiedOrRefused := by
  unfold Obligations.CartridgeIsCopiedOrRefused
  intro x bytes hx
  refine ⟨fun hle => ⟨_, apply_loadCartridge_of_le hx hle, fun i h => ?_, fun i h => ?_⟩, fun hgt => ?_⟩
  · simpa using Memory.read_writeAll_add (base := 0) h
  · exact Memory.read_writeAll_of_ge (by omega)
  · have happly : x.apply (.loadCartridge bytes) = .refused .cartridgeTooLarge := apply_loadCartridge_of_gt hx hgt
    rw [after_of_cartridgeTooLarge happly]
    exact ⟨happly, rfl, apply_of_failed rfl _⟩

/-- Settles O45, one lemma for each operation and the phases that treat it alike. -/
theorem launchOrderIsKept : Obligations.LaunchOrderIsKept := by
  unfold Obligations.LaunchOrderIsKept
  intro x bytes a v k
  refine ⟨fun h => ?_, fun h => ?_, apply_reset, fun h => ⟨?_, apply_envWrite h a v, apply_postInterrupt h k⟩,
    apply_of_failed⟩
  · have hreset := apply_reset_of_running h
    have hload := apply_loadCartridge_of_running h bytes
    exact ⟨hreset, hload, after_of_refused hreset (by decide), after_of_refused hload (by decide)⟩
  · have hload := apply_loadCartridge_of_loaded h bytes
    exact ⟨hload, after_of_refused hload (by decide)⟩
  · obtain ⟨t, ht⟩ := exists_step x.state
    exact ⟨t, ht, apply_step h ht⟩

/-! ### The values after Reset (R340, R341) -/

theorem resetWith_of_zero {l : Launch} (h : l.params.resetMode = .zero) : State.resetWith l = State.resetZero l := by
  simp only [State.resetWith, h]

theorem resetWith_of_postBoot {l : Launch} (h : l.params.resetMode = .postBoot) :
    State.resetWith l = State.resetPostBoot l := by
  simp only [State.resetWith, h]

/-- Settles O43: the fields of the two reset states; post_boot differs from INIT_MEM at the latch alone. -/
theorem resetLeavesTheStatedValues : Obligations.ResetLeavesTheStatedValues := by
  unfold Obligations.ResetLeavesTheStatedValues
  intro l
  refine ⟨?_, fun h => ?_, fun h => ?_⟩
  · cases h : l.params.resetMode with
    | zero =>
      rw [resetWith_of_zero h]
      exact ⟨rfl, rfl, rfl, rfl, rfl, rfl⟩
    | postBoot =>
      rw [resetWith_of_postBoot h]
      exact ⟨rfl, rfl, rfl, rfl, rfl, rfl⟩
  · rw [resetWith_of_zero h]
    have hreg (r : Reg8) : (State.resetZero l).reg r = 0 := by cases r <;> rfl
    exact ⟨hreg, rfl, rfl, rfl, rfl, memRead_overlay (s := State.resetZero l) (x := 0) (by decide)⟩
  · have hmem : (State.resetPostBoot l).mem = Memory.write l.initMemory 0xFF50 0x01 := rfl
    have hbc : join 0x00 0x13 = 0x0013 := by decide
    have hde : join 0x00 0xD8 = 0x00D8 := by decide
    have hhl : join 0x01 0x4D = 0x014D := by decide
    rw [resetWith_of_postBoot h, hmem]
    exact ⟨rfl, rfl, hbc, hde, hhl, rfl, rfl, Memory.read_write_same _ _ _, fun x hx => Memory.read_write_ne hx⟩

end Sys2Proof.Machine
